-- ==== Sys2Proof/Word.lean ====
section
/-!
DEFINITION. The two word types of the machine: bytes and 16-bit words (R6, R9).
-/

namespace Sys2Proof

/-- An 8-bit value: a data register, a memory location, an immediate `n` (R6, R9 `u8`). -/
abbrev Byte := BitVec 8

/-- A 16-bit value: SP, PC, an address, an immediate `nn` (R6, R9 `u16`). -/
abbrev Word := BitVec 16

end Sys2Proof
end

