-- ==== Sys2Proof/Machine/Bits.lean ====
section
/-!
DEFINITION. Byte order, byte extraction and sign extension (R9, R70), used by the decoder and by the
machine's operations.
-/

namespace Sys2Proof

/-- Bits 15..8 of a word: `v[15:8]` (R9). -/
def hiByte (w : Word) : Byte := BitVec.ofNat 8 (w.toNat / 256)

/-- Bits 7..0 of a word: `v[7:0]` (R9). -/
def loByte (w : Word) : Byte := BitVec.ofNat 8 w.toNat

/-- Concatenation `hi ++ lo = hi * 256 + lo` (R9). -/
def joinBytes (hi lo : Byte) : Word := BitVec.ofNat 16 (hi.toNat * 256 + lo.toNat)

/-- `sext_16(b)`: the byte read as a two's-complement number in -128..127 (R9). -/
def signedByte (b : Byte) : Int := if b.toNat < 128 then b.toNat else b.toNat - 256

/-- `trunc16(X + sext_16(b))` (R9). -/
def addSigned (w : Word) (b : Byte) : Word := BitVec.ofInt 16 (w.toNat + signedByte b)

/-- `trunc16(X + 1)` (R9). -/
def incWord (w : Word) : Word := BitVec.ofNat 16 (w.toNat + 1)

/-- `trunc16(X - 1)` (R9). -/
def decWord (w : Word) : Word := BitVec.ofInt 16 (w.toNat - 1)

end Sys2Proof
end

