-- ==== Sys2Proof/Config.lean ====
section
/-!
DEFINITION. The named parameters of R8 (`00_scope.md`), as plain data. A state carries one `Config`
(log 3): no step writes it, so every claim about all states is a claim about all parameter values.
The parameters `romImage` and `initRam` are memory contents: `State.powerOn` takes them.
-/

namespace Sys2Proof

/-- `HALT_POLICY` (R8, D16): what HALT does when IME is not Set. -/
inductive HaltPolicy where
  | fault
  | sm83
  deriving DecidableEq, Repr

/-- `DAA_VARIANT` (R8, D10, C9): which reading of the DAA paragraph is used. -/
inductive DaaVariant where
  | sm83
  | docSequential
  | docOriginal
  deriving DecidableEq, Repr

/-- `EI_FROM_SET` (R8, D12): what EI does when IME is already Set. -/
inductive EiFromSet where
  | restart
  | noEffect
  deriving DecidableEq, Repr

/-- `TIMA_ACC_WHEN_DISABLED` (R8, D19): whether the counter's accumulator grows while counting is
disabled. -/
inductive TimaAccWhenDisabled where
  | frozen
  | accumulates
  deriving DecidableEq, Repr

/-- The parameters of R8 that a step reads. `ioStub` lists the unlisted I/O addresses (R66) whose
policy value is not the default 0x00. -/
structure Config where
  haltPolicy : HaltPolicy
  daaVariant : DaaVariant
  eiFromSet  : EiFromSet
  timaAcc    : TimaAccWhenDisabled
  ioStub     : List Host.Cell
  deriving DecidableEq, Repr

/-- The defaults of R8. -/
def Config.default : Config where
  haltPolicy := .fault
  daaVariant := .sm83
  eiFromSet  := .restart
  timaAcc    := .frozen
  ioStub     := []

/-- What a byte of memory that nothing has written reads as (DESIGN CHOICE, log 1): `romImage` and
`initRam` are parameters of the spec (R8, R45), whose listed bytes `State.powerOn` takes. -/
def Config.blankByte : Byte := 0x00

end Sys2Proof
end

