-- ==== Sys2Proof/Syntax.lean ====
section
/-!
DEFINITION. The syntax of the machine's instructions. `Instr` has one constructor per row of
`spec/opcode_table.json` (the eleven ILLEGAL rows are one constructor with the byte as its operand).
`Form` is the same catalogue by operand shape (R94): one constructor per instruction rule, with the
operand codes of R96 to R103 as arguments. `Form.instr` and `Instr.form` (Decode.lean) translate.
-/

namespace Sys2Proof

/-- The seven 8-bit data registers (R21). -/
inductive Reg8 where
  | b | c | d | e | h | l | a
  deriving DecidableEq, Repr

/-- An 8-bit operand `r8[c]` (R96): a register, or the memory byte at address HL. -/
inductive Operand8 where
  | reg (r : Reg8)
  | atHL
  deriving DecidableEq, Repr

/-- A register pair `r16[c]` (R97). -/
inductive Pair16 where
  | bc | de | hl | sp
  deriving DecidableEq, Repr

/-- A stack register pair `r16stk[c]` (R98). -/
inductive PairStk where
  | bc | de | hl | af
  deriving DecidableEq, Repr

/-- A branch condition (R99). -/
inductive Cond where
  | nz | z | nc | c
  deriving DecidableEq, Repr

/-- An 8-bit ALU operation (R100). -/
inductive AluOp where
  | add | adc | sub | sbc | and | xor | or | cp
  deriving DecidableEq, Repr

/-- A rotate or shift operation (R101). -/
inductive RotOp where
  | rlc | rrc | rl | rr | sla | sra | swap | srl
  deriving DecidableEq, Repr

/-- An indirect address of the accumulator loads (R102). -/
inductive Indirect where
  | bc | de | hli | hld
  deriving DecidableEq, Repr

/-- A three-bit literal index: a bit number, or the restart vector divided by 8 (R94, R103, R104). -/
inductive Idx3 where
  | i0 | i1 | i2 | i3 | i4 | i5 | i6 | i7
  deriving DecidableEq, Repr

/-- The instruction catalogue by operand shape (R94); the rule of each is named beside it. -/
inductive Form where
  | nop                                   -- R220
  | stop (pad : Byte)                     -- R225
  | halt                                  -- R224
  | di                                    -- R221
  | ei                                    -- R222
  | ldRR (dst src : Reg8)                   -- R231
  | ldRM (dst : Reg8)                     -- R232
  | ldMR (src : Reg8)                     -- R233
  | ldRN (dst : Reg8) (n : Byte)          -- R234
  | ldMN (n : Byte)                       -- R235
  | ldAInd (i : Indirect)                 -- R236, R237, R242, R243
  | ldIndA (i : Indirect)                 -- R238, R239, R240, R241
  | ldhNA (n : Byte)                      -- R244
  | ldhAN (n : Byte)                      -- R245
  | ldCA                                  -- R246
  | ldAC                                  -- R247
  | ldNNA (nn : Word)                     -- R248
  | ldANN (nn : Word)                     -- R249
  | ldR16 (p : Pair16) (nn : Word)        -- R261
  | ldNNSP (nn : Word)                    -- R262
  | ldSPHL                                -- R263
  | ldHLSP (e : Byte)                     -- R264
  | push (p : PairStk)                    -- R265, R268
  | pop (p : PairStk)                     -- R266, R267
  | alu (op : AluOp) (o : Operand8)       -- R120 to R143
  | aluN (op : AluOp) (n : Byte)          -- R122, R125, R128, R131, R134, R137, R140, R143
  | inc8 (o : Operand8)                   -- R144, R145
  | dec8 (o : Operand8)                   -- R146, R147
  | daa                                   -- R148
  | cpl                                   -- R149
  | scf                                   -- R150
  | ccf                                   -- R151
  | addHL (p : Pair16)                    -- R160
  | addSP (e : Byte)                      -- R161
  | incR16 (p : Pair16)                   -- R162
  | decR16 (p : Pair16)                   -- R163
  | rlca                                  -- R170
  | rla                                   -- R171
  | rrca                                  -- R172
  | rra                                   -- R173
  | rot (k : RotOp) (o : Operand8)        -- R174 to R189
  | bit (b : Idx3) (o : Operand8)         -- R190, R191
  | res (b : Idx3) (o : Operand8)         -- R192, R193
  | set (b : Idx3) (o : Operand8)         -- R194, R195
  | jp (nn : Word)                        -- R200
  | jpCc (cc : Cond) (nn : Word)          -- R201
  | jpHL                                  -- R202
  | jr (e : Byte)                         -- R203
  | jrCc (cc : Cond) (e : Byte)           -- R204
  | call (nn : Word)                      -- R205
  | callCc (cc : Cond) (nn : Word)        -- R206
  | ret                                   -- R207
  | retCc (cc : Cond)                     -- R208
  | reti                                  -- R209
  | rst (t : Idx3)                        -- R210
  | cbPrefix (op2 : Byte)                 -- R226
  | illegal (op : Byte)                   -- R227
  deriving DecidableEq, Repr

/-- The instructions, one constructor per row of `spec/opcode_table.json`. Operands: `n` an unsigned
immediate byte, `e` the displacement byte as encoded (signed, R104), `nn` an immediate word, `pad`
the ignored second byte of STOP (R225), `op2` the second byte after the 0xCB prefix (R226), `op` an
illegal first byte (R227). The rows with operands stand first, then the others, each in the table's
order. -/
inductive Instr where
  | ldBC_NN (nn : Word)
  | ldB_N (n : Byte)
  | ldAtNN_SP (nn : Word)
  | ldC_N (n : Byte)
  | stop (pad : Byte)
  | ldDE_NN (nn : Word)
  | ldD_N (n : Byte)
  | jrE (e : Byte)
  | ldE_N (n : Byte)
  | jrNZ_E (e : Byte)
  | ldHL_NN (nn : Word)
  | ldH_N (n : Byte)
  | jrZ_E (e : Byte)
  | ldL_N (n : Byte)
  | jrNC_E (e : Byte)
  | ldSP_NN (nn : Word)
  | ldAtHL_N (n : Byte)
  | jrC_E (e : Byte)
  | ldA_N (n : Byte)
  | jpNZ_NN (nn : Word)
  | jpNN (nn : Word)
  | callNZ_NN (nn : Word)
  | addA_N (n : Byte)
  | jpZ_NN (nn : Word)
  | cb (op2 : Byte)
  | callZ_NN (nn : Word)
  | callNN (nn : Word)
  | adcA_N (n : Byte)
  | jpNC_NN (nn : Word)
  | illegal (op : Byte)
  | callNC_NN (nn : Word)
  | subN (n : Byte)
  | jpC_NN (nn : Word)
  | callC_NN (nn : Word)
  | sbcA_N (n : Byte)
  | ldhAtN_A (n : Byte)
  | andN (n : Byte)
  | addSP_E (e : Byte)
  | ldAtNN_A (nn : Word)
  | xorN (n : Byte)
  | ldhA_AtN (n : Byte)
  | orN (n : Byte)
  | ldHL_SPE (e : Byte)
  | ldA_AtNN (nn : Word)
  | cpN (n : Byte)
  | nop
  | ldAtBC_A
  | incBC
  | incB
  | decB
  | rlca
  | addHL_BC
  | ldA_AtBC
  | decBC
  | incC
  | decC
  | rrca
  | ldAtDE_A
  | incDE
  | incD
  | decD
  | rla
  | addHL_DE
  | ldA_AtDE
  | decDE
  | incE
  | decE
  | rra
  | ldAtHLI_A
  | incHL
  | incH
  | decH
  | daa
  | addHL_HL
  | ldA_AtHLI
  | decHL
  | incL
  | decL
  | cpl
  | ldAtHLD_A
  | incSP
  | incAtHL
  | decAtHL
  | scf
  | addHL_SP
  | ldA_AtHLD
  | decSP
  | incA
  | decA
  | ccf
  | ldB_B
  | ldB_C
  | ldB_D
  | ldB_E
  | ldB_H
  | ldB_L
  | ldB_AtHL
  | ldB_A
  | ldC_B
  | ldC_C
  | ldC_D
  | ldC_E
  | ldC_H
  | ldC_L
  | ldC_AtHL
  | ldC_A
  | ldD_B
  | ldD_C
  | ldD_D
  | ldD_E
  | ldD_H
  | ldD_L
  | ldD_AtHL
  | ldD_A
  | ldE_B
  | ldE_C
  | ldE_D
  | ldE_E
  | ldE_H
  | ldE_L
  | ldE_AtHL
  | ldE_A
  | ldH_B
  | ldH_C
  | ldH_D
  | ldH_E
  | ldH_H
  | ldH_L
  | ldH_AtHL
  | ldH_A
  | ldL_B
  | ldL_C
  | ldL_D
  | ldL_E
  | ldL_H
  | ldL_L
  | ldL_AtHL
  | ldL_A
  | ldAtHL_B
  | ldAtHL_C
  | ldAtHL_D
  | ldAtHL_E
  | ldAtHL_H
  | ldAtHL_L
  | halt
  | ldAtHL_A
  | ldA_B
  | ldA_C
  | ldA_D
  | ldA_E
  | ldA_H
  | ldA_L
  | ldA_AtHL
  | ldA_A
  | addA_B
  | addA_C
  | addA_D
  | addA_E
  | addA_H
  | addA_L
  | addA_AtHL
  | addA_A
  | adcA_B
  | adcA_C
  | adcA_D
  | adcA_E
  | adcA_H
  | adcA_L
  | adcA_AtHL
  | adcA_A
  | subB
  | subC
  | subD
  | subE
  | subH
  | subL
  | subAtHL
  | subA
  | sbcA_B
  | sbcA_C
  | sbcA_D
  | sbcA_E
  | sbcA_H
  | sbcA_L
  | sbcA_AtHL
  | sbcA_A
  | andB
  | andC
  | andD
  | andE
  | andH
  | andL
  | andAtHL
  | andA
  | xorB
  | xorC
  | xorD
  | xorE
  | xorH
  | xorL
  | xorAtHL
  | xorA
  | orB
  | orC
  | orD
  | orE
  | orH
  | orL
  | orAtHL
  | orA
  | cpB
  | cpC
  | cpD
  | cpE
  | cpH
  | cpL
  | cpAtHL
  | cpA
  | retNZ
  | popBC
  | pushBC
  | rst00
  | retZ
  | ret
  | rst08
  | retNC
  | popDE
  | pushDE
  | rst10
  | retC
  | reti
  | rst18
  | popHL
  | ldAtC_A
  | pushHL
  | rst20
  | jpHL
  | rst28
  | popAF
  | ldA_AtC
  | di
  | pushAF
  | rst30
  | ldSP_HL
  | ei
  | rst38
  | rlcB
  | rlcC
  | rlcD
  | rlcE
  | rlcH
  | rlcL
  | rlcAtHL
  | rlcA
  | rrcB
  | rrcC
  | rrcD
  | rrcE
  | rrcH
  | rrcL
  | rrcAtHL
  | rrcA
  | rlB
  | rlC
  | rlD
  | rlE
  | rlH
  | rlL
  | rlAtHL
  | rlA
  | rrB
  | rrC
  | rrD
  | rrE
  | rrH
  | rrL
  | rrAtHL
  | rrA
  | slaB
  | slaC
  | slaD
  | slaE
  | slaH
  | slaL
  | slaAtHL
  | slaA
  | sraB
  | sraC
  | sraD
  | sraE
  | sraH
  | sraL
  | sraAtHL
  | sraA
  | swapB
  | swapC
  | swapD
  | swapE
  | swapH
  | swapL
  | swapAtHL
  | swapA
  | srlB
  | srlC
  | srlD
  | srlE
  | srlH
  | srlL
  | srlAtHL
  | srlA
  | bit0_B
  | bit0_C
  | bit0_D
  | bit0_E
  | bit0_H
  | bit0_L
  | bit0_AtHL
  | bit0_A
  | bit1_B
  | bit1_C
  | bit1_D
  | bit1_E
  | bit1_H
  | bit1_L
  | bit1_AtHL
  | bit1_A
  | bit2_B
  | bit2_C
  | bit2_D
  | bit2_E
  | bit2_H
  | bit2_L
  | bit2_AtHL
  | bit2_A
  | bit3_B
  | bit3_C
  | bit3_D
  | bit3_E
  | bit3_H
  | bit3_L
  | bit3_AtHL
  | bit3_A
  | bit4_B
  | bit4_C
  | bit4_D
  | bit4_E
  | bit4_H
  | bit4_L
  | bit4_AtHL
  | bit4_A
  | bit5_B
  | bit5_C
  | bit5_D
  | bit5_E
  | bit5_H
  | bit5_L
  | bit5_AtHL
  | bit5_A
  | bit6_B
  | bit6_C
  | bit6_D
  | bit6_E
  | bit6_H
  | bit6_L
  | bit6_AtHL
  | bit6_A
  | bit7_B
  | bit7_C
  | bit7_D
  | bit7_E
  | bit7_H
  | bit7_L
  | bit7_AtHL
  | bit7_A
  | res0_B
  | res0_C
  | res0_D
  | res0_E
  | res0_H
  | res0_L
  | res0_AtHL
  | res0_A
  | res1_B
  | res1_C
  | res1_D
  | res1_E
  | res1_H
  | res1_L
  | res1_AtHL
  | res1_A
  | res2_B
  | res2_C
  | res2_D
  | res2_E
  | res2_H
  | res2_L
  | res2_AtHL
  | res2_A
  | res3_B
  | res3_C
  | res3_D
  | res3_E
  | res3_H
  | res3_L
  | res3_AtHL
  | res3_A
  | res4_B
  | res4_C
  | res4_D
  | res4_E
  | res4_H
  | res4_L
  | res4_AtHL
  | res4_A
  | res5_B
  | res5_C
  | res5_D
  | res5_E
  | res5_H
  | res5_L
  | res5_AtHL
  | res5_A
  | res6_B
  | res6_C
  | res6_D
  | res6_E
  | res6_H
  | res6_L
  | res6_AtHL
  | res6_A
  | res7_B
  | res7_C
  | res7_D
  | res7_E
  | res7_H
  | res7_L
  | res7_AtHL
  | res7_A
  | set0_B
  | set0_C
  | set0_D
  | set0_E
  | set0_H
  | set0_L
  | set0_AtHL
  | set0_A
  | set1_B
  | set1_C
  | set1_D
  | set1_E
  | set1_H
  | set1_L
  | set1_AtHL
  | set1_A
  | set2_B
  | set2_C
  | set2_D
  | set2_E
  | set2_H
  | set2_L
  | set2_AtHL
  | set2_A
  | set3_B
  | set3_C
  | set3_D
  | set3_E
  | set3_H
  | set3_L
  | set3_AtHL
  | set3_A
  | set4_B
  | set4_C
  | set4_D
  | set4_E
  | set4_H
  | set4_L
  | set4_AtHL
  | set4_A
  | set5_B
  | set5_C
  | set5_D
  | set5_E
  | set5_H
  | set5_L
  | set5_AtHL
  | set5_A
  | set6_B
  | set6_C
  | set6_D
  | set6_E
  | set6_H
  | set6_L
  | set6_AtHL
  | set6_A
  | set7_B
  | set7_C
  | set7_D
  | set7_E
  | set7_H
  | set7_L
  | set7_AtHL
  | set7_A
  deriving DecidableEq, Repr

end Sys2Proof
end

