-- ==== Sys2Proof/Machine/State.lean ====
section
/-!
DEFINITION. The state of the machine as plain data: everything R20 gives it, and the three fields of
the model's own (`cycles`, `cfg`, `host`, logs 3 to 5); the state after reset; the ways a step can
stop.
-/

namespace Sys2Proof.Machine

/-- The eight 8-bit slots of the register file: seven data registers and the flags byte F (R21, R22,
C2). -/
structure Regs where
  a : Byte
  f : Byte
  b : Byte
  c : Byte
  d : Byte
  e : Byte
  h : Byte
  l : Byte
  deriving DecidableEq, Repr

/-- IME, the interrupt master enable (R30). -/
inductive Ime where
  | unset
  | pendingNewInstruction
  | pendingInstructionCompletion
  | set
  deriving DecidableEq, Repr

/-- The timer/divider (R34): DIV, its sub-cycle accumulator, TIMA, its sub-cycle accumulator, TMA,
TAC. -/
structure Timer where
  div     : Byte
  divAcc  : Nat
  tima    : Byte
  timaAcc : Nat
  tma     : Byte
  tac     : Byte
  deriving DecidableEq, Repr

/-- One host input (R286): the IF bits to raise (only bits 0, 1, 3, 4 act), the joypad's new low
nibble if any, and whether to wake a stopped core. -/
structure HostInput where
  raise   : Byte
  buttons : Option (BitVec 4)
  wake    : Bool
  deriving DecidableEq, Repr

/-- The storage behind the address space (R38): the listed bytes of the ROM, video RAM, external RAM,
work RAM, OAM and high RAM arrays, each under the address of the region that owns it. A byte that is
not listed reads as `Config.blankByte`. -/
abbrev Memory := List Host.Cell

/-- An address that owns a byte of storage: the six arrays of R38. The echo region (R56) owns none. -/
abbrev isStorageAddress (k : Nat) : Prop :=
  k < 0xE000 ∨ (0xFE00 ≤ k ∧ k < 0xFEA0) ∨ (0xFF80 ≤ k ∧ k < 0xFFFF)

/-- The canonical form of a memory: addresses strictly rising, each one a storage address, and no
entry equal to what an unlisted address reads as. Equal memories are then equal lists. -/
abbrev Memory.wf (m : Memory) : Prop :=
  m.Pairwise (fun x y => x.1 < y.1) ∧
    ∀ x ∈ m, isStorageAddress x.1 ∧ x.2 ≠ Config.blankByte

/-- The complete state (R20). -/
structure State where
  regs    : Regs
  sp      : Word
  pc      : Word
  ime     : Ime
  halted  : Bool
  stopped : Bool
  haltBug : Bool
  timer   : Timer
  ifl     : Byte            -- IF, the interrupt-flag byte (R35)
  ie      : Byte            -- IE, the interrupt-enable byte (R36)
  joyp    : Byte            -- joypStored (R37)
  mem     : Memory
  cycles  : Nat             -- the model's own: the cost the last instruction returned (R12, log 4)
  cfg     : Config          -- the model's own: the parameters of R8 (log 3)
  host    : List HostInput  -- the model's own: the host inputs of the coming steps (R286, log 5)
  deriving DecidableEq, Repr

/-- The machine at power-on with given parameters, memory contents (`romImage` and `initRam`) and
coming host inputs (R45, R330, R331): all registers and devices zero, IME Unset, running. -/
def State.powerOn (cfg : Config) (image : Memory) (host : List HostInput) : State where
  regs    := { a := 0, f := 0, b := 0, c := 0, d := 0, e := 0, h := 0, l := 0 }
  sp      := 0x0000
  pc      := 0x0000
  ime     := .unset
  halted  := false
  stopped := false
  haltBug := false
  timer   := { div := 0, divAcc := 0, tima := 0, timaAcc := 0, tma := 0, tac := 0 }
  ifl     := 0
  ie      := 0
  joyp    := 0
  mem     := image
  cycles  := 0
  cfg     := cfg
  host    := host

/-- The state after reset (R45, R331) with the default parameters of R8, no byte of memory listed and
a quiet host. -/
def State.reset : State := State.powerOn Config.default [] []

/-- The model-level faults (R13, R297). Neither is an exception a program can handle. -/
inductive Fault where
  /-- Raised by `illegal`, the instruction of the eleven illegal first bytes (R109, R227). Safe: the
  machine stops where the spec gives no next state. -/
  | illegalOpcode
  /-- Raised by HALT when IME is not Set and `HALT_POLICY = fault` (R224). Safe: the machine stops
  where the spec raises this fault. -/
  | haltImeNotSet
  deriving DecidableEq, Repr

/-- Refusals of the model. -/
inductive Refusal where
  /-- Answered by an arm of `exec` for an instruction that has no meaning yet. No arm does. Safe. -/
  | notModelled (mnemonic : String)
  deriving DecidableEq, Repr

/-- What a meaning answers. -/
abbrev Result := Host.Outcome State Fault Refusal

end Sys2Proof.Machine
end

