-- ==== Sys2Proof/Machine/Flags.lean ====
section
/-!
DEFINITION. The arithmetic of the machine with its flags: sums and differences computed exactly on
integers and narrowed at the end (R9), logic, increments, decimal adjustment, 16-bit sums, rotates
and shifts, single bits.
-/

namespace Sys2Proof.Machine

/-- The result of an 8-bit operation and its four flags. -/
structure AluOut where
  result : Byte
  z : Bool
  n : Bool
  h : Bool
  c : Bool
  deriving DecidableEq, Repr

/-- `add8(a, b, cin)` (R152). -/
def add8 (a b : Byte) (cin : Bool) : AluOut :=
  let s := a.toNat + b.toNat + cin.toNat
  let r := BitVec.ofNat 8 s
  { result := r
    z := r == 0
    n := false
    h := decide (a.toNat % 16 + b.toNat % 16 + cin.toNat > 0x0F)
    c := decide (s > 0xFF) }

/-- `sub8(a, b, cin)` (R153): H and C are borrows. -/
def sub8 (a b : Byte) (cin : Bool) : AluOut :=
  let d : Int := a.toNat - b.toNat - cin.toNat
  let r := BitVec.ofInt 8 d
  { result := r
    z := r == 0
    n := true
    h := decide (a.toNat % 16 < b.toNat % 16 + cin.toNat)
    c := decide (d < 0) }

/-- AND: H is always 1, C is 0 (R132). -/
def and8 (a b : Byte) : AluOut :=
  { result := a &&& b, z := a &&& b == 0, n := false, h := true, c := false }

/-- XOR (R135). -/
def xor8 (a b : Byte) : AluOut :=
  { result := a ^^^ b, z := a ^^^ b == 0, n := false, h := false, c := false }

/-- OR (R138). -/
def or8 (a b : Byte) : AluOut :=
  { result := a ||| b, z := a ||| b == 0, n := false, h := false, c := false }

/-- The eight ALU operations on the accumulator, an operand and the carry flag (R100). CP is the
subtraction whose result is discarded (R141), so its result is the accumulator itself. -/
def AluOp.run (k : AluOp) (a v : Byte) (carry : Bool) : AluOut :=
  match k with
  | .add => add8 a v false
  | .adc => add8 a v carry
  | .sub => sub8 a v false
  | .sbc => sub8 a v carry
  | .and => and8 a v
  | .xor => xor8 a v
  | .or => or8 a v
  | .cp => { sub8 a v false with result := a }

/-- INC on a byte (R144): C is passed through. -/
def inc8 (v : Byte) (carry : Bool) : AluOut :=
  let r := BitVec.ofNat 8 (v.toNat + 1)
  { result := r, z := r == 0, n := false, h := v &&& 0x0F == 0x0F, c := carry }

/-- DEC on a byte (R146): C is passed through. -/
def dec8 (v : Byte) (carry : Bool) : AluOut :=
  let r := BitVec.ofInt 8 (v.toNat - 1)
  { result := r, z := r == 0, n := true, h := v &&& 0x0F == 0x00, c := carry }

/-- DAA, the default reading (R148, `DAA_VARIANT = sm83`): the corrected accumulator and carry. -/
def daaSm83 (a : Byte) (n h c : Bool) : Byte × Bool :=
  if n then
    let adj : Int := (if h then 0x06 else 0x00) + (if c then 0x60 else 0x00)
    (BitVec.ofInt 8 (a.toNat - adj), c)
  else
    let lowFix := h || decide (a.toNat % 16 > 0x09)
    let highFix := c || decide (a.toNat > 0x99)
    let adj : Nat := (if lowFix then 0x06 else 0x00) + (if highFix then 0x60 else 0x00)
    (BitVec.ofNat 8 (a.toNat + adj), highFix)

/-- DAA, `DAA_VARIANT = doc_sequential` (R148): the second test looks at the value already
corrected. -/
def daaSequential (a : Byte) (h c : Bool) : Byte × Bool :=
  let a1 := if h || decide (a.toNat % 16 > 0x09) then BitVec.ofNat 8 (a.toNat + 0x06) else a
  if c || decide ((a1 &&& 0xF0).toNat > 0x90) then (BitVec.ofNat 8 (a1.toNat + 0x60), true)
  else (a1, false)

/-- DAA, `DAA_VARIANT = doc_original` (R148): both tests look at the value before correction. -/
def daaOriginal (a : Byte) (h c : Bool) : Byte × Bool :=
  let lowFix := h || decide (a.toNat % 16 > 0x09)
  let highFix := c || decide ((a &&& 0xF0).toNat > 0x90)
  let adj : Nat := (if lowFix then 0x06 else 0x00) + (if highFix then 0x60 else 0x00)
  (BitVec.ofNat 8 (a.toNat + adj), highFix)

/-- DAA by its variant (R148): N is kept, H is cleared, Z is recomputed. -/
def daa8 (variant : DaaVariant) (a : Byte) (n h c : Bool) : AluOut :=
  let out : Byte × Bool := match variant with
    | .sm83 => daaSm83 a n h c
    | .docSequential => daaSequential a h c
    | .docOriginal => daaOriginal a h c
  { result := out.1, z := out.1 == 0, n := n, h := false, c := out.2 }

/-- A 16-bit result and its four flags. -/
structure AddOut where
  result : Word
  z : Bool
  n : Bool
  h : Bool
  c : Bool
  deriving DecidableEq, Repr

/-- The sum of `ADD HL,rr` (R160): Z from the 16-bit result (C6), H the carry out of bit 11, C the
carry out of bit 15. -/
def add16 (a b : Word) : AddOut :=
  let s := a.toNat + b.toNat
  let r := BitVec.ofNat 16 s
  { result := r
    z := r == 0
    n := false
    h := decide (a.toNat % 0x1000 + b.toNat % 0x1000 > 0x0FFF)
    c := decide (s > 0xFFFF) }

/-- The sum of `ADD SP,e` (R161): Z from the 16-bit result (C6), H and C from the unsigned low
bytes. -/
def addSpByte (sp : Word) (e : Byte) : AddOut :=
  let r := addSigned sp e
  { result := r
    z := r == 0
    n := false
    h := decide (sp.toNat % 16 + e.toNat % 16 > 0x0F)
    c := decide (sp.toNat % 256 + e.toNat > 0xFF) }

/-- A flag as the lowest bit of a byte. -/
def bitByte (b : Bool) : Byte := BitVec.ofNat 8 b.toNat

/-- `rot(k, v, cin)`: the result and the carry out (R196). -/
def RotOp.run (k : RotOp) (v : Byte) (cin : Bool) : Byte × Bool :=
  match k with
  | .rlc => ((v <<< 1) ||| bitByte (v.getLsbD 7), v.getLsbD 7)
  | .rrc => ((v >>> 1) ||| (bitByte (v.getLsbD 0) <<< 7), v.getLsbD 0)
  | .rl => ((v <<< 1) ||| bitByte cin, v.getLsbD 7)
  | .rr => ((v >>> 1) ||| (bitByte cin <<< 7), v.getLsbD 0)
  | .sla => (v <<< 1, v.getLsbD 7)
  | .sra => ((v >>> 1) ||| (v &&& 0x80), v.getLsbD 0)
  | .swap => ((v <<< 4) ||| (v >>> 4), false)
  | .srl => (v >>> 1, v.getLsbD 0)

/-- The number 0..7 of a bit. -/
def bitNumber : Idx3 → Nat
  | .i0 => 0
  | .i1 => 1
  | .i2 => 2
  | .i3 => 3
  | .i4 => 4
  | .i5 => 5
  | .i6 => 6
  | .i7 => 7

/-- The byte `1 << b`. -/
def bitMask (b : Idx3) : Byte := (1 : Byte) <<< bitNumber b

end Sys2Proof.Machine
end

