-- ==== Sys2Proof/Machine/Ops.lean ====
section
/-!
DEFINITION. The named operations over registers, memory and devices: the register file (R21, R22),
the address-space dispatcher (R52 to R67), fetch and stack (R11), the timer (R310), the IME epilogue
(R285), interrupt dispatch and return (R292, R209), the wake of HALT (R303), the host input (R286).
-/

namespace Sys2Proof.Machine

/-! ### One update per field -/

def State.setRegs (s : State) (v : Regs) : State := { s with regs := v }
def State.setSp (s : State) (v : Word) : State := { s with sp := v }
def State.setPc (s : State) (v : Word) : State := { s with pc := v }
def State.setIme (s : State) (v : Ime) : State := { s with ime := v }
def State.setHalted (s : State) (v : Bool) : State := { s with halted := v }
def State.setStopped (s : State) (v : Bool) : State := { s with stopped := v }
def State.setHaltBug (s : State) (v : Bool) : State := { s with haltBug := v }
def State.setTimer (s : State) (v : Timer) : State := { s with timer := v }
def State.setIfl (s : State) (v : Byte) : State := { s with ifl := v }
def State.setIe (s : State) (v : Byte) : State := { s with ie := v }
def State.setJoyp (s : State) (v : Byte) : State := { s with joyp := v }
def State.setMem (s : State) (v : Memory) : State := { s with mem := v }
def State.setCycles (s : State) (v : Nat) : State := { s with cycles := v }
def State.setHost (s : State) (v : List HostInput) : State := { s with host := v }

/-! ### The register file -/

/-- A data register of the register file (R21). -/
def Regs.get (g : Regs) : Reg8 → Byte
  | .b => g.b
  | .c => g.c
  | .d => g.d
  | .e => g.e
  | .h => g.h
  | .l => g.l
  | .a => g.a

/-- The register file with one data register written (R21). -/
def Regs.put (g : Regs) (r : Reg8) (v : Byte) : Regs :=
  match r with
  | .b => { g with b := v }
  | .c => { g with c := v }
  | .d => { g with d := v }
  | .e => { g with e := v }
  | .h => { g with h := v }
  | .l => { g with l := v }
  | .a => { g with a := v }

/-- Reading a data register. -/
def State.getReg (s : State) (r : Reg8) : Byte := s.regs.get r

/-- Writing a data register. -/
def State.setReg (s : State) (r : Reg8) (v : Byte) : State := s.setRegs (s.regs.put r v)

/-- Writing the flags byte whole. -/
def State.setF (s : State) (v : Byte) : State := s.setRegs { s.regs with f := v }

/-- Z is bit 7 of F (R22, D5). -/
def State.flagZ (s : State) : Bool := s.regs.f.getLsbD 7

/-- N is bit 6 of F (R22, D5). -/
def State.flagN (s : State) : Bool := s.regs.f.getLsbD 6

/-- H is bit 5 of F (R22, D5). -/
def State.flagH (s : State) : Bool := s.regs.f.getLsbD 5

/-- C is bit 4 of F (R22, D5). -/
def State.flagC (s : State) : Bool := s.regs.f.getLsbD 4

/-- The flags byte with the given four flags in its top nibble (R22). -/
def packFlags (z n h c : Bool) : Byte :=
  BitVec.ofNat 8 (128 * z.toNat + 64 * n.toNat + 32 * h.toNat + 16 * c.toNat)

/-- Writing the four flags. "Writing one of them rewrites that bit of F and leaves the other bits
alone" (R10), so the low nibble of F stays. -/
def State.setFlags (s : State) (z n h c : Bool) : State :=
  s.setF ((s.regs.f &&& 0x0F) ||| packFlags z n h c)

/-- The pair BC (R23). -/
def State.bc (s : State) : Word := joinBytes s.regs.b s.regs.c

/-- The pair DE (R23). -/
def State.de (s : State) : Word := joinBytes s.regs.d s.regs.e

/-- The pair HL (R23). -/
def State.hl (s : State) : Word := joinBytes s.regs.h s.regs.l

/-- The pair AF (R23). -/
def State.af (s : State) : Word := joinBytes s.regs.a s.regs.f

/-- Writing BC: the high byte to B, the low byte to C (R23). -/
def State.setBc (s : State) (v : Word) : State :=
  s.setRegs { s.regs with b := hiByte v, c := loByte v }

/-- Writing DE (R23). -/
def State.setDe (s : State) (v : Word) : State :=
  s.setRegs { s.regs with d := hiByte v, e := loByte v }

/-- Writing HL (R23). -/
def State.setHl (s : State) (v : Word) : State :=
  s.setRegs { s.regs with h := hiByte v, l := loByte v }

/-- Writing AF: `v[15:8]` to A and `v[7:0] & 0xF0` to F, so that the low nibble of F is 0 (R23). -/
def State.setAf (s : State) (v : Word) : State :=
  s.setRegs { s.regs with a := hiByte v, f := loByte v &&& 0xF0 }

/-! ### The storage arrays -/

/-- The byte of storage at an address: its entry, or the blank byte where there is none. -/
def Memory.get : Memory → Nat → Byte
  | [], _ => Config.blankByte
  | x :: rest, k => if x.1 = k then x.2 else Memory.get rest k

/-- The memory without its entries for an address. -/
def Memory.erase (m : Memory) (k : Nat) : Memory := m.filter (fun x => x.1 != k)

/-- The memory with an entry put before the first one of a higher address. -/
def Memory.insert : Memory → Nat → Byte → Memory
  | [], k, v => [(k, v)]
  | x :: rest, k, v => if k < x.1 then (k, v) :: x :: rest else x :: Memory.insert rest k v

/-- The memory after storing a byte: an entry for it, or none where it is the blank byte. -/
def Memory.set (m : Memory) (k : Nat) (v : Byte) : Memory :=
  if v = Config.blankByte then m.erase k else (m.erase k).insert k v

/-! ### The address-space dispatcher -/

/-- The regions of the address space (R52). -/
inductive Region where
  | rom | videoRam | externalRam | workRam | echoRam | oam | unusable | io | highRam | interruptEnable
  deriving DecidableEq, Repr

/-- The region that holds an address (R52). -/
def regionOf (a : Word) : Region :=
  let n := a.toNat
  if n ≤ 0x7FFF then .rom
  else if n ≤ 0x9FFF then .videoRam
  else if n ≤ 0xBFFF then .externalRam
  else if n ≤ 0xDFFF then .workRam
  else if n ≤ 0xFDFF then .echoRam
  else if n ≤ 0xFE9F then .oam
  else if n ≤ 0xFEFF then .unusable
  else if n ≤ 0xFF7F then .io
  else if n ≤ 0xFFFE then .highRam
  else .interruptEnable

/-- What an address selects: a byte of storage (two addresses that alias select the same one, R56), a
device register, a stub, or nothing. -/
inductive Target where
  | storage (k : Nat)
  | unusable
  | joypad
  | divider
  | counter
  | modulo
  | control
  | interruptFlags
  | zeroStub
  | unlisted (k : Nat)
  | interruptEnable
  deriving DecidableEq, Repr

/-- What an address of the I/O window selects (R58 to R66). -/
def ioTarget (a : Word) : Target :=
  let n := a.toNat
  if n = 0xFF00 then .joypad
  else if n = 0xFF04 then .divider
  else if n = 0xFF05 then .counter
  else if n = 0xFF06 then .modulo
  else if n = 0xFF07 then .control
  else if n = 0xFF0F then .interruptFlags
  else if 0xFF10 ≤ n ∧ n ≤ 0xFF3F then .zeroStub
  else if 0xFF4F ≤ n ∧ n ≤ 0xFF77 then .zeroStub
  else .unlisted n

/-- What an address selects (R52). -/
def target (a : Word) : Target :=
  match regionOf a with
  | .rom | .videoRam | .externalRam | .workRam | .oam | .highRam => .storage a.toNat
  | .echoRam => .storage (a.toNat - 0x2000)
  | .unusable => .unusable
  | .io => ioTarget a
  | .interruptEnable => .interruptEnable

/-- `MemRead(addr, 1)` (R53): total, without side effect. -/
def State.memRead (s : State) (a : Word) : Byte :=
  match target a with
  | .storage k => s.mem.get k
  | .unusable => 0x00
  | .joypad => s.joyp ||| 0x0F
  | .divider => s.timer.div
  | .counter => s.timer.tima
  | .modulo => s.timer.tma
  | .control => s.timer.tac
  | .interruptFlags => s.ifl
  | .zeroStub => 0x00
  | .unlisted k => Memory.get s.cfg.ioStub k
  | .interruptEnable => s.ie

/-- `MemWrite(addr, 1, v)` (R54): total. A write to the divider clears its accumulator and stores
nothing (R59, C5); the joypad register keeps only the top nibble (R58); the unusable region and the
stubs discard the byte (R57, R64 to R66). -/
def State.memWrite (s : State) (a : Word) (v : Byte) : State :=
  match target a with
  | .storage k => s.setMem (s.mem.set k v)
  | .unusable => s
  | .joypad => s.setJoyp ((s.joyp &&& 0x0F) ||| (v &&& 0xF0))
  | .divider => s.setTimer { s.timer with divAcc := 0 }
  | .counter => s.setTimer { s.timer with tima := v }
  | .modulo => s.setTimer { s.timer with tma := v }
  | .control => s.setTimer { s.timer with tac := v }
  | .interruptFlags => s.setIfl v
  | .zeroStub => s
  | .unlisted _ => s
  | .interruptEnable => s.setIe v

/-! ### Fetch and stack -/

/-- `Fetch8()` (R11), and while haltBug is set the fetch that does not advance PC and clears the bit
(R305). -/
def State.fetch8 (s : State) : Byte × State :=
  if s.haltBug then (s.memRead s.pc, s.setHaltBug false)
  else (s.memRead s.pc, s.setPc (incWord s.pc))

/-- `Push16(v)` (R11, R71): the high byte at SP - 1, then the low byte at SP - 2. -/
def State.push16 (s : State) (v : Word) : State :=
  let s := s.setSp (decWord s.sp)
  let s := s.memWrite s.sp (hiByte v)
  let s := s.setSp (decWord s.sp)
  s.memWrite s.sp (loByte v)

/-- `Pop16()` (R11, R71): the low byte at SP, then the high byte at SP + 1. -/
def State.pop16 (s : State) : Word × State :=
  let lo := s.memRead s.sp
  let s := s.setSp (incWord s.sp)
  let hi := s.memRead s.sp
  (joinBytes hi lo, s.setSp (incWord s.sp))

/-! ### The timer -/

/-- TAC bit 2 enables counting (R34, R62). -/
def Timer.enabled (t : Timer) : Bool := t.tac.getLsbD 2

/-- `PERIOD[TAC[1:0]]` (R34, R310). -/
def Timer.period (t : Timer) : Nat :=
  match t.tac.toNat % 4 with
  | 0 => 1024
  | 1 => 16
  | 2 => 64
  | _ => 256

/-- One increment of the counter: the one that would take TIMA from 0xFF to 0x00 reloads it from TMA
and sets IF bit 2 instead (R310, R313). -/
def State.countOnce (s : State) : State :=
  if s.timer.tima = 0xFF then
    (s.setTimer { s.timer with tima := s.timer.tma }).setIfl (s.ifl ||| 0x04)
  else s.setTimer { s.timer with tima := s.timer.tima + 1 }

/-- A number of increments of the counter. -/
def State.countMany : Nat → State → State
  | 0, s => s
  | k + 1, s => State.countMany k s.countOnce

/-- The divider's part of `tick(n)`: DIV rolls forward once for every 256 accumulated cycles and
wraps silently (R310, R311). -/
def State.tickDivider (n : Nat) (s : State) : State :=
  let acc := s.timer.divAcc + n
  s.setTimer { s.timer with
    div := BitVec.ofNat 8 (s.timer.div.toNat + acc / 256), divAcc := acc % 256 }

/-- The counter's part of `tick(n)` (R310, R312): the loop "while timaAcc >= PERIOD" as the number of
its rounds. -/
def State.tickCounter (n : Nat) (s : State) : State :=
  let acc :=
    if s.timer.enabled || s.cfg.timaAcc == .accumulates then s.timer.timaAcc + n
    else s.timer.timaAcc
  if s.timer.enabled then
    State.countMany (acc / s.timer.period)
      (s.setTimer { s.timer with timaAcc := acc % s.timer.period })
  else s.setTimer { s.timer with timaAcc := acc }

/-- `tick(n)` (R310). -/
def State.tick (n : Nat) (s : State) : State := (s.tickDivider n).tickCounter n

/-! ### The IME epilogue -/

/-- One epilogue moves IME by one state (R285). -/
def Ime.epilogue : Ime → Ime
  | .unset => .unset
  | .pendingNewInstruction => .pendingInstructionCompletion
  | .pendingInstructionCompletion => .set
  | .set => .set

/-- The epilogue of an executed instruction (R285). -/
def State.epilogue (s : State) : State := s.setIme s.ime.epilogue

/-! ### Interrupts -/

/-- The five interrupt sources (R289). -/
inductive IrqSource where
  | verticalBlank | displayStatus | timer | serial | joypad
  deriving DecidableEq, Repr

/-- The number of a source: its bit in IF and IE (R289). -/
def IrqSource.number : IrqSource → Nat
  | .verticalBlank => 0
  | .displayStatus => 1
  | .timer => 2
  | .serial => 3
  | .joypad => 4

/-- The handler address 0x40 + 8n of a source (R289). -/
def IrqSource.handler (q : IrqSource) : Word := BitVec.ofNat 16 (0x40 + 8 * q.number)

/-- The bit of a source in IF and IE as a byte (R289). -/
def IrqSource.mask (q : IrqSource) : Byte := BitVec.ofNat 8 (2 ^ q.number)

/-- `IE & IF & 0x1F`: the requests that are pending and enabled (R280, R289). -/
def State.pending (s : State) : Byte := s.ie &&& s.ifl &&& 0x1F

/-- The pending and enabled source of lowest bit number (R291), if any. -/
def State.firstPending (s : State) : Option IrqSource :=
  let p := s.pending
  if p.getLsbD 0 then some .verticalBlank
  else if p.getLsbD 1 then some .displayStatus
  else if p.getLsbD 2 then some .timer
  else if p.getLsbD 3 then some .serial
  else if p.getLsbD 4 then some .joypad
  else none

/-- Taking an interrupt, the machine's only exception entry (R292): IME becomes Unset, the request is
cleared, PC is pushed, PC goes to the handler, halted and haltBug are cleared, and 20 cycles are
ticked. -/
def State.enterInterrupt (q : IrqSource) (s : State) : State :=
  let s := s.setIme .unset
  let s := s.setIfl (s.ifl &&& ~~~ q.mask)
  let s := s.push16 s.pc
  let s := s.setPc q.handler
  let s := s.setHalted false
  let s := s.setHaltBug false
  s.tick 20

/-- The return from a handler (R209, R284): PC is popped and IME is Set at once. -/
def State.leaveInterrupt (s : State) : State :=
  let (pc, s) := s.pop16
  (s.setPc pc).setIme .set

/-- The wake of the halted state (R303): a pending and enabled request ends it, whatever IME. -/
def State.wakeHalted (s : State) : State :=
  if s.halted && s.firstPending.isSome then s.setHalted false else s

/-- The service phase (R280 phase 3): wake, then dispatch one interrupt if IME is Set (R290). -/
def State.service (s : State) : State :=
  let s := s.wakeHalted
  match s.ime, s.firstPending with
  | .set, some q => s.enterInterrupt q
  | _, _ => s

/-! ### The host -/

/-- The host input of a step applied to the state (R286, R288, R308, R318): it can raise IF bits 0, 1,
3 and 4, replace the joypad's stored low nibble and wake a stopped core. -/
def State.applyInput (h : HostInput) (s : State) : State :=
  let s := s.setIfl (s.ifl ||| (h.raise &&& 0x1B))
  let s := match h.buttons with
    | none => s
    | some n => s.setJoyp ((s.joyp &&& 0xF0) ||| n.setWidth 8)
  if h.wake then s.setStopped false else s

/-- The host phase (R280 phase 2): the next input of the list is applied and taken off it; the host is
quiet once the list is empty. -/
def State.hostPhase (s : State) : State :=
  match s.host with
  | [] => s
  | h :: rest => (s.setHost rest).applyInput h

/-- The end of a step (R280 phases 2 and 3): the host input, then the service phase unless the core is
stopped. -/
def State.finishStep (s : State) : State :=
  let s := s.hostPhase
  if s.stopped then s else s.service

end Sys2Proof.Machine
end

