-- ==== Sys2Proof/Machine/Operands.lean ====
section
/-!
DEFINITION. The operand forms: 8-bit operands (R96), register pairs (R97, R98), conditions (R99),
indirect addresses (R102), the high page (R74, R104), restart targets (R103).
-/

namespace Sys2Proof.Machine

/-- Reading an 8-bit operand `r8[c]`: a register, or `MemRead(HL, 1)` (R96). -/
def State.readOperand (s : State) : Operand8 → Byte
  | .reg r => s.getReg r
  | .atHL => s.memRead s.hl

/-- Writing an 8-bit operand `r8[c]`: a register, or `MemWrite(HL, 1, v)` (R96). -/
def State.writeOperand (s : State) (o : Operand8) (v : Byte) : State :=
  match o with
  | .reg r => s.setReg r v
  | .atHL => s.memWrite s.hl v

/-- A cycle cost that depends on whether the operand is in memory. -/
def costOf (o : Operand8) (register memory : Nat) : Nat :=
  match o with
  | .reg _ => register
  | .atHL => memory

/-- Reading a register pair `r16[c]` (R97). -/
def State.readPair (s : State) : Pair16 → Word
  | .bc => s.bc
  | .de => s.de
  | .hl => s.hl
  | .sp => s.sp

/-- Writing a register pair `r16[c]` (R97). -/
def State.writePair (s : State) (p : Pair16) (v : Word) : State :=
  match p with
  | .bc => s.setBc v
  | .de => s.setDe v
  | .hl => s.setHl v
  | .sp => s.setSp v

/-- Reading a stack register pair `r16stk[c]` (R98). -/
def State.readStk (s : State) : PairStk → Word
  | .bc => s.bc
  | .de => s.de
  | .hl => s.hl
  | .af => s.af

/-- Writing a stack register pair `r16stk[c]` (R98). -/
def State.writeStk (s : State) (p : PairStk) (v : Word) : State :=
  match p with
  | .bc => s.setBc v
  | .de => s.setDe v
  | .hl => s.setHl v
  | .af => s.setAf v

/-- Whether a condition holds (R99). -/
def State.holds (s : State) : Cond → Bool
  | .nz => !s.flagZ
  | .z => s.flagZ
  | .nc => !s.flagC
  | .c => s.flagC

/-- The address of an indirect accumulator load or store (R102). -/
def State.indirectAddress (s : State) : Indirect → Word
  | .bc => s.bc
  | .de => s.de
  | .hli | .hld => s.hl

/-- The update of HL that follows the access of (HL+) and (HL-) (R102). -/
def State.indirectUpdate (s : State) : Indirect → State
  | .bc | .de => s
  | .hli => s.setHl (incWord s.hl)
  | .hld => s.setHl (decWord s.hl)

/-- The high-page address `0xFF00 + n` (R104, R244). -/
def highPage (n : Byte) : Word := joinBytes 0xFF n

/-- The restart target `8 * y` (R103). -/
def restartTarget (t : Idx3) : Word := BitVec.ofNat 16 (8 * bitNumber t)

/-- Writing the accumulator and the four flags from an 8-bit result. -/
def State.putAlu (s : State) (r : AluOut) : State :=
  (s.setReg .a r.result).setFlags r.z r.n r.h r.c

end Sys2Proof.Machine
end

