-- ==== Sys2Proof/Machine/Alu16.lean ====
section
/-!
DEFINITION. The 16-bit arithmetic instructions (`41_alu16.md`, R160 to R163).
-/

namespace Sys2Proof.Machine

/-! ### Shared operations -/

/-- `ADD HL,rr` (R160). -/
def addToHL (p : Pair16) (s : State) : Result :=
  let r := add16 s.hl (s.readPair p)
  .next (((s.setHl r.result).setFlags r.z r.n r.h r.c).setCycles 8)

/-- `ADD SP,e` (R161). -/
def addToSP (e : Byte) (s : State) : Result :=
  let r := addSpByte s.sp e
  .next (((s.setSp r.result).setFlags r.z r.n r.h r.c).setCycles 16)

/-- `INC rr` (R162). -/
def incPair (p : Pair16) (s : State) : Result :=
  .next ((s.writePair p (incWord (s.readPair p))).setCycles 8)

/-- `DEC rr` (R163). -/
def decPair (p : Pair16) (s : State) : Result :=
  .next ((s.writePair p (decWord (s.readPair p))).setCycles 8)

/-! ### One meaning per row of the opcode table -/

/-- `INC BC` (R162). -/
def execIncBC (s : State) : Result := incPair .bc s

/-- `ADD HL,BC` (R160). -/
def execAddHL_BC (s : State) : Result := addToHL .bc s

/-- `DEC BC` (R163). -/
def execDecBC (s : State) : Result := decPair .bc s

/-- `INC DE` (R162). -/
def execIncDE (s : State) : Result := incPair .de s

/-- `ADD HL,DE` (R160). -/
def execAddHL_DE (s : State) : Result := addToHL .de s

/-- `DEC DE` (R163). -/
def execDecDE (s : State) : Result := decPair .de s

/-- `INC HL` (R162). -/
def execIncHL (s : State) : Result := incPair .hl s

/-- `ADD HL,HL` (R160). -/
def execAddHL_HL (s : State) : Result := addToHL .hl s

/-- `DEC HL` (R163). -/
def execDecHL (s : State) : Result := decPair .hl s

/-- `INC SP` (R162). -/
def execIncSP (s : State) : Result := incPair .sp s

/-- `ADD HL,SP` (R160). -/
def execAddHL_SP (s : State) : Result := addToHL .sp s

/-- `DEC SP` (R163). -/
def execDecSP (s : State) : Result := decPair .sp s

/-- `ADD SP,e` (R161). -/
def execAddSP_E (e : Byte) (s : State) : Result := addToSP e s

end Sys2Proof.Machine
end

