-- ==== Sys2Proof/Machine/Alu8.lean ====
section
/-!
DEFINITION. The 8-bit arithmetic and logic instructions (`40_alu8.md`, R120 to R151).
-/

namespace Sys2Proof.Machine

/-! ### Shared operations -/

/-- An ALU operation of the accumulator with a register or the byte at HL (R120 to R143). -/
def aluOperand (k : AluOp) (o : Operand8) (s : State) : Result :=
  .next ((s.putAlu (AluOp.run k (s.getReg .a) (s.readOperand o) s.flagC)).setCycles (costOf o 4 8))

/-- An ALU operation of the accumulator with an immediate byte (R122, R125, R128, R131, R134, R137,
R140, R143). -/
def aluImmediate (k : AluOp) (n : Byte) (s : State) : Result :=
  .next ((s.putAlu (AluOp.run k (s.getReg .a) n s.flagC)).setCycles 8)

/-- `INC r` and `INC (HL)` (R144, R145): the flags come from the value computed, not from what a later
read returns. -/
def incOperand (o : Operand8) (s : State) : Result :=
  let r := inc8 (s.readOperand o) s.flagC
  .next (((s.writeOperand o r.result).setFlags r.z r.n r.h r.c).setCycles (costOf o 4 12))

/-- `DEC r` and `DEC (HL)` (R146, R147). -/
def decOperand (o : Operand8) (s : State) : Result :=
  let r := dec8 (s.readOperand o) s.flagC
  .next (((s.writeOperand o r.result).setFlags r.z r.n r.h r.c).setCycles (costOf o 4 12))

/-- `DAA` (R148). -/
def decimalAdjust (s : State) : Result :=
  .next ((s.putAlu (daa8 s.cfg.daaVariant (s.getReg .a) s.flagN s.flagH s.flagC)).setCycles 4)

/-- `CPL` (R149). -/
def complementA (s : State) : Result :=
  .next (((s.setReg .a (s.getReg .a ^^^ 0xFF)).setFlags s.flagZ true true s.flagC).setCycles 4)

/-- `SCF` (R150). -/
def setCarry (s : State) : Result :=
  .next ((s.setFlags s.flagZ false false true).setCycles 4)

/-- `CCF` (R151). -/
def complementCarry (s : State) : Result :=
  .next ((s.setFlags s.flagZ false false (!s.flagC)).setCycles 4)

/-! ### One meaning per row of the opcode table -/

/-- `INC B` (R144). -/
def execIncB (s : State) : Result := incOperand (.reg .b) s

/-- `DEC B` (R146). -/
def execDecB (s : State) : Result := decOperand (.reg .b) s

/-- `INC C` (R144). -/
def execIncC (s : State) : Result := incOperand (.reg .c) s

/-- `DEC C` (R146). -/
def execDecC (s : State) : Result := decOperand (.reg .c) s

/-- `INC D` (R144). -/
def execIncD (s : State) : Result := incOperand (.reg .d) s

/-- `DEC D` (R146). -/
def execDecD (s : State) : Result := decOperand (.reg .d) s

/-- `INC E` (R144). -/
def execIncE (s : State) : Result := incOperand (.reg .e) s

/-- `DEC E` (R146). -/
def execDecE (s : State) : Result := decOperand (.reg .e) s

/-- `INC H` (R144). -/
def execIncH (s : State) : Result := incOperand (.reg .h) s

/-- `DEC H` (R146). -/
def execDecH (s : State) : Result := decOperand (.reg .h) s

/-- `DAA` (R148). -/
def execDaa (s : State) : Result := decimalAdjust s

/-- `INC L` (R144). -/
def execIncL (s : State) : Result := incOperand (.reg .l) s

/-- `DEC L` (R146). -/
def execDecL (s : State) : Result := decOperand (.reg .l) s

/-- `CPL` (R149). -/
def execCpl (s : State) : Result := complementA s

/-- `INC (HL)` (R145). -/
def execIncAtHL (s : State) : Result := incOperand .atHL s

/-- `DEC (HL)` (R147). -/
def execDecAtHL (s : State) : Result := decOperand .atHL s

/-- `SCF` (R150). -/
def execScf (s : State) : Result := setCarry s

/-- `INC A` (R144). -/
def execIncA (s : State) : Result := incOperand (.reg .a) s

/-- `DEC A` (R146). -/
def execDecA (s : State) : Result := decOperand (.reg .a) s

/-- `CCF` (R151). -/
def execCcf (s : State) : Result := complementCarry s

/-- `ADD A,B` (R120). -/
def execAddA_B (s : State) : Result := aluOperand .add (.reg .b) s

/-- `ADD A,C` (R120). -/
def execAddA_C (s : State) : Result := aluOperand .add (.reg .c) s

/-- `ADD A,D` (R120). -/
def execAddA_D (s : State) : Result := aluOperand .add (.reg .d) s

/-- `ADD A,E` (R120). -/
def execAddA_E (s : State) : Result := aluOperand .add (.reg .e) s

/-- `ADD A,H` (R120). -/
def execAddA_H (s : State) : Result := aluOperand .add (.reg .h) s

/-- `ADD A,L` (R120). -/
def execAddA_L (s : State) : Result := aluOperand .add (.reg .l) s

/-- `ADD A,(HL)` (R121). -/
def execAddA_AtHL (s : State) : Result := aluOperand .add .atHL s

/-- `ADD A,A` (R120). -/
def execAddA_A (s : State) : Result := aluOperand .add (.reg .a) s

/-- `ADC A,B` (R123). -/
def execAdcA_B (s : State) : Result := aluOperand .adc (.reg .b) s

/-- `ADC A,C` (R123). -/
def execAdcA_C (s : State) : Result := aluOperand .adc (.reg .c) s

/-- `ADC A,D` (R123). -/
def execAdcA_D (s : State) : Result := aluOperand .adc (.reg .d) s

/-- `ADC A,E` (R123). -/
def execAdcA_E (s : State) : Result := aluOperand .adc (.reg .e) s

/-- `ADC A,H` (R123). -/
def execAdcA_H (s : State) : Result := aluOperand .adc (.reg .h) s

/-- `ADC A,L` (R123). -/
def execAdcA_L (s : State) : Result := aluOperand .adc (.reg .l) s

/-- `ADC A,(HL)` (R124). -/
def execAdcA_AtHL (s : State) : Result := aluOperand .adc .atHL s

/-- `ADC A,A` (R123). -/
def execAdcA_A (s : State) : Result := aluOperand .adc (.reg .a) s

/-- `SUB B` (R126). -/
def execSubB (s : State) : Result := aluOperand .sub (.reg .b) s

/-- `SUB C` (R126). -/
def execSubC (s : State) : Result := aluOperand .sub (.reg .c) s

/-- `SUB D` (R126). -/
def execSubD (s : State) : Result := aluOperand .sub (.reg .d) s

/-- `SUB E` (R126). -/
def execSubE (s : State) : Result := aluOperand .sub (.reg .e) s

/-- `SUB H` (R126). -/
def execSubH (s : State) : Result := aluOperand .sub (.reg .h) s

/-- `SUB L` (R126). -/
def execSubL (s : State) : Result := aluOperand .sub (.reg .l) s

/-- `SUB (HL)` (R127). -/
def execSubAtHL (s : State) : Result := aluOperand .sub .atHL s

/-- `SUB A` (R126). -/
def execSubA (s : State) : Result := aluOperand .sub (.reg .a) s

/-- `SBC A,B` (R129). -/
def execSbcA_B (s : State) : Result := aluOperand .sbc (.reg .b) s

/-- `SBC A,C` (R129). -/
def execSbcA_C (s : State) : Result := aluOperand .sbc (.reg .c) s

/-- `SBC A,D` (R129). -/
def execSbcA_D (s : State) : Result := aluOperand .sbc (.reg .d) s

/-- `SBC A,E` (R129). -/
def execSbcA_E (s : State) : Result := aluOperand .sbc (.reg .e) s

/-- `SBC A,H` (R129). -/
def execSbcA_H (s : State) : Result := aluOperand .sbc (.reg .h) s

/-- `SBC A,L` (R129). -/
def execSbcA_L (s : State) : Result := aluOperand .sbc (.reg .l) s

/-- `SBC A,(HL)` (R130). -/
def execSbcA_AtHL (s : State) : Result := aluOperand .sbc .atHL s

/-- `SBC A,A` (R129). -/
def execSbcA_A (s : State) : Result := aluOperand .sbc (.reg .a) s

/-- `AND B` (R132). -/
def execAndB (s : State) : Result := aluOperand .and (.reg .b) s

/-- `AND C` (R132). -/
def execAndC (s : State) : Result := aluOperand .and (.reg .c) s

/-- `AND D` (R132). -/
def execAndD (s : State) : Result := aluOperand .and (.reg .d) s

/-- `AND E` (R132). -/
def execAndE (s : State) : Result := aluOperand .and (.reg .e) s

/-- `AND H` (R132). -/
def execAndH (s : State) : Result := aluOperand .and (.reg .h) s

/-- `AND L` (R132). -/
def execAndL (s : State) : Result := aluOperand .and (.reg .l) s

/-- `AND (HL)` (R133). -/
def execAndAtHL (s : State) : Result := aluOperand .and .atHL s

/-- `AND A` (R132). -/
def execAndA (s : State) : Result := aluOperand .and (.reg .a) s

/-- `XOR B` (R135). -/
def execXorB (s : State) : Result := aluOperand .xor (.reg .b) s

/-- `XOR C` (R135). -/
def execXorC (s : State) : Result := aluOperand .xor (.reg .c) s

/-- `XOR D` (R135). -/
def execXorD (s : State) : Result := aluOperand .xor (.reg .d) s

/-- `XOR E` (R135). -/
def execXorE (s : State) : Result := aluOperand .xor (.reg .e) s

/-- `XOR H` (R135). -/
def execXorH (s : State) : Result := aluOperand .xor (.reg .h) s

/-- `XOR L` (R135). -/
def execXorL (s : State) : Result := aluOperand .xor (.reg .l) s

/-- `XOR (HL)` (R136). -/
def execXorAtHL (s : State) : Result := aluOperand .xor .atHL s

/-- `XOR A` (R135). -/
def execXorA (s : State) : Result := aluOperand .xor (.reg .a) s

/-- `OR B` (R138). -/
def execOrB (s : State) : Result := aluOperand .or (.reg .b) s

/-- `OR C` (R138). -/
def execOrC (s : State) : Result := aluOperand .or (.reg .c) s

/-- `OR D` (R138). -/
def execOrD (s : State) : Result := aluOperand .or (.reg .d) s

/-- `OR E` (R138). -/
def execOrE (s : State) : Result := aluOperand .or (.reg .e) s

/-- `OR H` (R138). -/
def execOrH (s : State) : Result := aluOperand .or (.reg .h) s

/-- `OR L` (R138). -/
def execOrL (s : State) : Result := aluOperand .or (.reg .l) s

/-- `OR (HL)` (R139). -/
def execOrAtHL (s : State) : Result := aluOperand .or .atHL s

/-- `OR A` (R138). -/
def execOrA (s : State) : Result := aluOperand .or (.reg .a) s

/-- `CP B` (R141). -/
def execCpB (s : State) : Result := aluOperand .cp (.reg .b) s

/-- `CP C` (R141). -/
def execCpC (s : State) : Result := aluOperand .cp (.reg .c) s

/-- `CP D` (R141). -/
def execCpD (s : State) : Result := aluOperand .cp (.reg .d) s

/-- `CP E` (R141). -/
def execCpE (s : State) : Result := aluOperand .cp (.reg .e) s

/-- `CP H` (R141). -/
def execCpH (s : State) : Result := aluOperand .cp (.reg .h) s

/-- `CP L` (R141). -/
def execCpL (s : State) : Result := aluOperand .cp (.reg .l) s

/-- `CP (HL)` (R142). -/
def execCpAtHL (s : State) : Result := aluOperand .cp .atHL s

/-- `CP A` (R141). -/
def execCpA (s : State) : Result := aluOperand .cp (.reg .a) s

/-- `ADD A,n` (R122). -/
def execAddA_N (n : Byte) (s : State) : Result := aluImmediate .add n s

/-- `ADC A,n` (R125). -/
def execAdcA_N (n : Byte) (s : State) : Result := aluImmediate .adc n s

/-- `SUB n` (R128). -/
def execSubN (n : Byte) (s : State) : Result := aluImmediate .sub n s

/-- `SBC A,n` (R131). -/
def execSbcA_N (n : Byte) (s : State) : Result := aluImmediate .sbc n s

/-- `AND n` (R134). -/
def execAndN (n : Byte) (s : State) : Result := aluImmediate .and n s

/-- `XOR n` (R137). -/
def execXorN (n : Byte) (s : State) : Result := aluImmediate .xor n s

/-- `OR n` (R140). -/
def execOrN (n : Byte) (s : State) : Result := aluImmediate .or n s

/-- `CP n` (R143). -/
def execCpN (n : Byte) (s : State) : Result := aluImmediate .cp n s

end Sys2Proof.Machine
end

