-- ==== Sys2Proof/Machine/Bit.lean ====
section
/-!
DEFINITION. The single-bit instructions of the extended table (`42_rotate_shift_bit.md`, R190 to
R195).
-/

namespace Sys2Proof.Machine

/-! ### Shared operations -/

/-- `BIT b,r` and `BIT b,(HL)` (R190, R191): Z is set when the bit is 0; C is untouched. -/
def testBit (b : Idx3) (o : Operand8) (s : State) : Result :=
  .next ((s.setFlags (!(s.readOperand o).getLsbD (bitNumber b)) false true s.flagC).setCycles
    (costOf o 8 12))

/-- `RES b,r` and `RES b,(HL)` (R192, R193). -/
def clearBit (b : Idx3) (o : Operand8) (s : State) : Result :=
  .next ((s.writeOperand o (s.readOperand o &&& ~~~ bitMask b)).setCycles (costOf o 8 16))

/-- `SET b,r` and `SET b,(HL)` (R194, R195). -/
def setBit (b : Idx3) (o : Operand8) (s : State) : Result :=
  .next ((s.writeOperand o (s.readOperand o ||| bitMask b)).setCycles (costOf o 8 16))

/-! ### One meaning per row of the opcode table -/

/-- `BIT 0,B` (R190). -/
def execBit0_B (s : State) : Result := testBit .i0 (.reg .b) s

/-- `BIT 0,C` (R190). -/
def execBit0_C (s : State) : Result := testBit .i0 (.reg .c) s

/-- `BIT 0,D` (R190). -/
def execBit0_D (s : State) : Result := testBit .i0 (.reg .d) s

/-- `BIT 0,E` (R190). -/
def execBit0_E (s : State) : Result := testBit .i0 (.reg .e) s

/-- `BIT 0,H` (R190). -/
def execBit0_H (s : State) : Result := testBit .i0 (.reg .h) s

/-- `BIT 0,L` (R190). -/
def execBit0_L (s : State) : Result := testBit .i0 (.reg .l) s

/-- `BIT 0,(HL)` (R191). -/
def execBit0_AtHL (s : State) : Result := testBit .i0 .atHL s

/-- `BIT 0,A` (R190). -/
def execBit0_A (s : State) : Result := testBit .i0 (.reg .a) s

/-- `BIT 1,B` (R190). -/
def execBit1_B (s : State) : Result := testBit .i1 (.reg .b) s

/-- `BIT 1,C` (R190). -/
def execBit1_C (s : State) : Result := testBit .i1 (.reg .c) s

/-- `BIT 1,D` (R190). -/
def execBit1_D (s : State) : Result := testBit .i1 (.reg .d) s

/-- `BIT 1,E` (R190). -/
def execBit1_E (s : State) : Result := testBit .i1 (.reg .e) s

/-- `BIT 1,H` (R190). -/
def execBit1_H (s : State) : Result := testBit .i1 (.reg .h) s

/-- `BIT 1,L` (R190). -/
def execBit1_L (s : State) : Result := testBit .i1 (.reg .l) s

/-- `BIT 1,(HL)` (R191). -/
def execBit1_AtHL (s : State) : Result := testBit .i1 .atHL s

/-- `BIT 1,A` (R190). -/
def execBit1_A (s : State) : Result := testBit .i1 (.reg .a) s

/-- `BIT 2,B` (R190). -/
def execBit2_B (s : State) : Result := testBit .i2 (.reg .b) s

/-- `BIT 2,C` (R190). -/
def execBit2_C (s : State) : Result := testBit .i2 (.reg .c) s

/-- `BIT 2,D` (R190). -/
def execBit2_D (s : State) : Result := testBit .i2 (.reg .d) s

/-- `BIT 2,E` (R190). -/
def execBit2_E (s : State) : Result := testBit .i2 (.reg .e) s

/-- `BIT 2,H` (R190). -/
def execBit2_H (s : State) : Result := testBit .i2 (.reg .h) s

/-- `BIT 2,L` (R190). -/
def execBit2_L (s : State) : Result := testBit .i2 (.reg .l) s

/-- `BIT 2,(HL)` (R191). -/
def execBit2_AtHL (s : State) : Result := testBit .i2 .atHL s

/-- `BIT 2,A` (R190). -/
def execBit2_A (s : State) : Result := testBit .i2 (.reg .a) s

/-- `BIT 3,B` (R190). -/
def execBit3_B (s : State) : Result := testBit .i3 (.reg .b) s

/-- `BIT 3,C` (R190). -/
def execBit3_C (s : State) : Result := testBit .i3 (.reg .c) s

/-- `BIT 3,D` (R190). -/
def execBit3_D (s : State) : Result := testBit .i3 (.reg .d) s

/-- `BIT 3,E` (R190). -/
def execBit3_E (s : State) : Result := testBit .i3 (.reg .e) s

/-- `BIT 3,H` (R190). -/
def execBit3_H (s : State) : Result := testBit .i3 (.reg .h) s

/-- `BIT 3,L` (R190). -/
def execBit3_L (s : State) : Result := testBit .i3 (.reg .l) s

/-- `BIT 3,(HL)` (R191). -/
def execBit3_AtHL (s : State) : Result := testBit .i3 .atHL s

/-- `BIT 3,A` (R190). -/
def execBit3_A (s : State) : Result := testBit .i3 (.reg .a) s

/-- `BIT 4,B` (R190). -/
def execBit4_B (s : State) : Result := testBit .i4 (.reg .b) s

/-- `BIT 4,C` (R190). -/
def execBit4_C (s : State) : Result := testBit .i4 (.reg .c) s

/-- `BIT 4,D` (R190). -/
def execBit4_D (s : State) : Result := testBit .i4 (.reg .d) s

/-- `BIT 4,E` (R190). -/
def execBit4_E (s : State) : Result := testBit .i4 (.reg .e) s

/-- `BIT 4,H` (R190). -/
def execBit4_H (s : State) : Result := testBit .i4 (.reg .h) s

/-- `BIT 4,L` (R190). -/
def execBit4_L (s : State) : Result := testBit .i4 (.reg .l) s

/-- `BIT 4,(HL)` (R191). -/
def execBit4_AtHL (s : State) : Result := testBit .i4 .atHL s

/-- `BIT 4,A` (R190). -/
def execBit4_A (s : State) : Result := testBit .i4 (.reg .a) s

/-- `BIT 5,B` (R190). -/
def execBit5_B (s : State) : Result := testBit .i5 (.reg .b) s

/-- `BIT 5,C` (R190). -/
def execBit5_C (s : State) : Result := testBit .i5 (.reg .c) s

/-- `BIT 5,D` (R190). -/
def execBit5_D (s : State) : Result := testBit .i5 (.reg .d) s

/-- `BIT 5,E` (R190). -/
def execBit5_E (s : State) : Result := testBit .i5 (.reg .e) s

/-- `BIT 5,H` (R190). -/
def execBit5_H (s : State) : Result := testBit .i5 (.reg .h) s

/-- `BIT 5,L` (R190). -/
def execBit5_L (s : State) : Result := testBit .i5 (.reg .l) s

/-- `BIT 5,(HL)` (R191). -/
def execBit5_AtHL (s : State) : Result := testBit .i5 .atHL s

/-- `BIT 5,A` (R190). -/
def execBit5_A (s : State) : Result := testBit .i5 (.reg .a) s

/-- `BIT 6,B` (R190). -/
def execBit6_B (s : State) : Result := testBit .i6 (.reg .b) s

/-- `BIT 6,C` (R190). -/
def execBit6_C (s : State) : Result := testBit .i6 (.reg .c) s

/-- `BIT 6,D` (R190). -/
def execBit6_D (s : State) : Result := testBit .i6 (.reg .d) s

/-- `BIT 6,E` (R190). -/
def execBit6_E (s : State) : Result := testBit .i6 (.reg .e) s

/-- `BIT 6,H` (R190). -/
def execBit6_H (s : State) : Result := testBit .i6 (.reg .h) s

/-- `BIT 6,L` (R190). -/
def execBit6_L (s : State) : Result := testBit .i6 (.reg .l) s

/-- `BIT 6,(HL)` (R191). -/
def execBit6_AtHL (s : State) : Result := testBit .i6 .atHL s

/-- `BIT 6,A` (R190). -/
def execBit6_A (s : State) : Result := testBit .i6 (.reg .a) s

/-- `BIT 7,B` (R190). -/
def execBit7_B (s : State) : Result := testBit .i7 (.reg .b) s

/-- `BIT 7,C` (R190). -/
def execBit7_C (s : State) : Result := testBit .i7 (.reg .c) s

/-- `BIT 7,D` (R190). -/
def execBit7_D (s : State) : Result := testBit .i7 (.reg .d) s

/-- `BIT 7,E` (R190). -/
def execBit7_E (s : State) : Result := testBit .i7 (.reg .e) s

/-- `BIT 7,H` (R190). -/
def execBit7_H (s : State) : Result := testBit .i7 (.reg .h) s

/-- `BIT 7,L` (R190). -/
def execBit7_L (s : State) : Result := testBit .i7 (.reg .l) s

/-- `BIT 7,(HL)` (R191). -/
def execBit7_AtHL (s : State) : Result := testBit .i7 .atHL s

/-- `BIT 7,A` (R190). -/
def execBit7_A (s : State) : Result := testBit .i7 (.reg .a) s

/-- `RES 0,B` (R192). -/
def execRes0_B (s : State) : Result := clearBit .i0 (.reg .b) s

/-- `RES 0,C` (R192). -/
def execRes0_C (s : State) : Result := clearBit .i0 (.reg .c) s

/-- `RES 0,D` (R192). -/
def execRes0_D (s : State) : Result := clearBit .i0 (.reg .d) s

/-- `RES 0,E` (R192). -/
def execRes0_E (s : State) : Result := clearBit .i0 (.reg .e) s

/-- `RES 0,H` (R192). -/
def execRes0_H (s : State) : Result := clearBit .i0 (.reg .h) s

/-- `RES 0,L` (R192). -/
def execRes0_L (s : State) : Result := clearBit .i0 (.reg .l) s

/-- `RES 0,(HL)` (R193). -/
def execRes0_AtHL (s : State) : Result := clearBit .i0 .atHL s

/-- `RES 0,A` (R192). -/
def execRes0_A (s : State) : Result := clearBit .i0 (.reg .a) s

/-- `RES 1,B` (R192). -/
def execRes1_B (s : State) : Result := clearBit .i1 (.reg .b) s

/-- `RES 1,C` (R192). -/
def execRes1_C (s : State) : Result := clearBit .i1 (.reg .c) s

/-- `RES 1,D` (R192). -/
def execRes1_D (s : State) : Result := clearBit .i1 (.reg .d) s

/-- `RES 1,E` (R192). -/
def execRes1_E (s : State) : Result := clearBit .i1 (.reg .e) s

/-- `RES 1,H` (R192). -/
def execRes1_H (s : State) : Result := clearBit .i1 (.reg .h) s

/-- `RES 1,L` (R192). -/
def execRes1_L (s : State) : Result := clearBit .i1 (.reg .l) s

/-- `RES 1,(HL)` (R193). -/
def execRes1_AtHL (s : State) : Result := clearBit .i1 .atHL s

/-- `RES 1,A` (R192). -/
def execRes1_A (s : State) : Result := clearBit .i1 (.reg .a) s

/-- `RES 2,B` (R192). -/
def execRes2_B (s : State) : Result := clearBit .i2 (.reg .b) s

/-- `RES 2,C` (R192). -/
def execRes2_C (s : State) : Result := clearBit .i2 (.reg .c) s

/-- `RES 2,D` (R192). -/
def execRes2_D (s : State) : Result := clearBit .i2 (.reg .d) s

/-- `RES 2,E` (R192). -/
def execRes2_E (s : State) : Result := clearBit .i2 (.reg .e) s

/-- `RES 2,H` (R192). -/
def execRes2_H (s : State) : Result := clearBit .i2 (.reg .h) s

/-- `RES 2,L` (R192). -/
def execRes2_L (s : State) : Result := clearBit .i2 (.reg .l) s

/-- `RES 2,(HL)` (R193). -/
def execRes2_AtHL (s : State) : Result := clearBit .i2 .atHL s

/-- `RES 2,A` (R192). -/
def execRes2_A (s : State) : Result := clearBit .i2 (.reg .a) s

/-- `RES 3,B` (R192). -/
def execRes3_B (s : State) : Result := clearBit .i3 (.reg .b) s

/-- `RES 3,C` (R192). -/
def execRes3_C (s : State) : Result := clearBit .i3 (.reg .c) s

/-- `RES 3,D` (R192). -/
def execRes3_D (s : State) : Result := clearBit .i3 (.reg .d) s

/-- `RES 3,E` (R192). -/
def execRes3_E (s : State) : Result := clearBit .i3 (.reg .e) s

/-- `RES 3,H` (R192). -/
def execRes3_H (s : State) : Result := clearBit .i3 (.reg .h) s

/-- `RES 3,L` (R192). -/
def execRes3_L (s : State) : Result := clearBit .i3 (.reg .l) s

/-- `RES 3,(HL)` (R193). -/
def execRes3_AtHL (s : State) : Result := clearBit .i3 .atHL s

/-- `RES 3,A` (R192). -/
def execRes3_A (s : State) : Result := clearBit .i3 (.reg .a) s

/-- `RES 4,B` (R192). -/
def execRes4_B (s : State) : Result := clearBit .i4 (.reg .b) s

/-- `RES 4,C` (R192). -/
def execRes4_C (s : State) : Result := clearBit .i4 (.reg .c) s

/-- `RES 4,D` (R192). -/
def execRes4_D (s : State) : Result := clearBit .i4 (.reg .d) s

/-- `RES 4,E` (R192). -/
def execRes4_E (s : State) : Result := clearBit .i4 (.reg .e) s

/-- `RES 4,H` (R192). -/
def execRes4_H (s : State) : Result := clearBit .i4 (.reg .h) s

/-- `RES 4,L` (R192). -/
def execRes4_L (s : State) : Result := clearBit .i4 (.reg .l) s

/-- `RES 4,(HL)` (R193). -/
def execRes4_AtHL (s : State) : Result := clearBit .i4 .atHL s

/-- `RES 4,A` (R192). -/
def execRes4_A (s : State) : Result := clearBit .i4 (.reg .a) s

/-- `RES 5,B` (R192). -/
def execRes5_B (s : State) : Result := clearBit .i5 (.reg .b) s

/-- `RES 5,C` (R192). -/
def execRes5_C (s : State) : Result := clearBit .i5 (.reg .c) s

/-- `RES 5,D` (R192). -/
def execRes5_D (s : State) : Result := clearBit .i5 (.reg .d) s

/-- `RES 5,E` (R192). -/
def execRes5_E (s : State) : Result := clearBit .i5 (.reg .e) s

/-- `RES 5,H` (R192). -/
def execRes5_H (s : State) : Result := clearBit .i5 (.reg .h) s

/-- `RES 5,L` (R192). -/
def execRes5_L (s : State) : Result := clearBit .i5 (.reg .l) s

/-- `RES 5,(HL)` (R193). -/
def execRes5_AtHL (s : State) : Result := clearBit .i5 .atHL s

/-- `RES 5,A` (R192). -/
def execRes5_A (s : State) : Result := clearBit .i5 (.reg .a) s

/-- `RES 6,B` (R192). -/
def execRes6_B (s : State) : Result := clearBit .i6 (.reg .b) s

/-- `RES 6,C` (R192). -/
def execRes6_C (s : State) : Result := clearBit .i6 (.reg .c) s

/-- `RES 6,D` (R192). -/
def execRes6_D (s : State) : Result := clearBit .i6 (.reg .d) s

/-- `RES 6,E` (R192). -/
def execRes6_E (s : State) : Result := clearBit .i6 (.reg .e) s

/-- `RES 6,H` (R192). -/
def execRes6_H (s : State) : Result := clearBit .i6 (.reg .h) s

/-- `RES 6,L` (R192). -/
def execRes6_L (s : State) : Result := clearBit .i6 (.reg .l) s

/-- `RES 6,(HL)` (R193). -/
def execRes6_AtHL (s : State) : Result := clearBit .i6 .atHL s

/-- `RES 6,A` (R192). -/
def execRes6_A (s : State) : Result := clearBit .i6 (.reg .a) s

/-- `RES 7,B` (R192). -/
def execRes7_B (s : State) : Result := clearBit .i7 (.reg .b) s

/-- `RES 7,C` (R192). -/
def execRes7_C (s : State) : Result := clearBit .i7 (.reg .c) s

/-- `RES 7,D` (R192). -/
def execRes7_D (s : State) : Result := clearBit .i7 (.reg .d) s

/-- `RES 7,E` (R192). -/
def execRes7_E (s : State) : Result := clearBit .i7 (.reg .e) s

/-- `RES 7,H` (R192). -/
def execRes7_H (s : State) : Result := clearBit .i7 (.reg .h) s

/-- `RES 7,L` (R192). -/
def execRes7_L (s : State) : Result := clearBit .i7 (.reg .l) s

/-- `RES 7,(HL)` (R193). -/
def execRes7_AtHL (s : State) : Result := clearBit .i7 .atHL s

/-- `RES 7,A` (R192). -/
def execRes7_A (s : State) : Result := clearBit .i7 (.reg .a) s

/-- `SET 0,B` (R194). -/
def execSet0_B (s : State) : Result := setBit .i0 (.reg .b) s

/-- `SET 0,C` (R194). -/
def execSet0_C (s : State) : Result := setBit .i0 (.reg .c) s

/-- `SET 0,D` (R194). -/
def execSet0_D (s : State) : Result := setBit .i0 (.reg .d) s

/-- `SET 0,E` (R194). -/
def execSet0_E (s : State) : Result := setBit .i0 (.reg .e) s

/-- `SET 0,H` (R194). -/
def execSet0_H (s : State) : Result := setBit .i0 (.reg .h) s

/-- `SET 0,L` (R194). -/
def execSet0_L (s : State) : Result := setBit .i0 (.reg .l) s

/-- `SET 0,(HL)` (R195). -/
def execSet0_AtHL (s : State) : Result := setBit .i0 .atHL s

/-- `SET 0,A` (R194). -/
def execSet0_A (s : State) : Result := setBit .i0 (.reg .a) s

/-- `SET 1,B` (R194). -/
def execSet1_B (s : State) : Result := setBit .i1 (.reg .b) s

/-- `SET 1,C` (R194). -/
def execSet1_C (s : State) : Result := setBit .i1 (.reg .c) s

/-- `SET 1,D` (R194). -/
def execSet1_D (s : State) : Result := setBit .i1 (.reg .d) s

/-- `SET 1,E` (R194). -/
def execSet1_E (s : State) : Result := setBit .i1 (.reg .e) s

/-- `SET 1,H` (R194). -/
def execSet1_H (s : State) : Result := setBit .i1 (.reg .h) s

/-- `SET 1,L` (R194). -/
def execSet1_L (s : State) : Result := setBit .i1 (.reg .l) s

/-- `SET 1,(HL)` (R195). -/
def execSet1_AtHL (s : State) : Result := setBit .i1 .atHL s

/-- `SET 1,A` (R194). -/
def execSet1_A (s : State) : Result := setBit .i1 (.reg .a) s

/-- `SET 2,B` (R194). -/
def execSet2_B (s : State) : Result := setBit .i2 (.reg .b) s

/-- `SET 2,C` (R194). -/
def execSet2_C (s : State) : Result := setBit .i2 (.reg .c) s

/-- `SET 2,D` (R194). -/
def execSet2_D (s : State) : Result := setBit .i2 (.reg .d) s

/-- `SET 2,E` (R194). -/
def execSet2_E (s : State) : Result := setBit .i2 (.reg .e) s

/-- `SET 2,H` (R194). -/
def execSet2_H (s : State) : Result := setBit .i2 (.reg .h) s

/-- `SET 2,L` (R194). -/
def execSet2_L (s : State) : Result := setBit .i2 (.reg .l) s

/-- `SET 2,(HL)` (R195). -/
def execSet2_AtHL (s : State) : Result := setBit .i2 .atHL s

/-- `SET 2,A` (R194). -/
def execSet2_A (s : State) : Result := setBit .i2 (.reg .a) s

/-- `SET 3,B` (R194). -/
def execSet3_B (s : State) : Result := setBit .i3 (.reg .b) s

/-- `SET 3,C` (R194). -/
def execSet3_C (s : State) : Result := setBit .i3 (.reg .c) s

/-- `SET 3,D` (R194). -/
def execSet3_D (s : State) : Result := setBit .i3 (.reg .d) s

/-- `SET 3,E` (R194). -/
def execSet3_E (s : State) : Result := setBit .i3 (.reg .e) s

/-- `SET 3,H` (R194). -/
def execSet3_H (s : State) : Result := setBit .i3 (.reg .h) s

/-- `SET 3,L` (R194). -/
def execSet3_L (s : State) : Result := setBit .i3 (.reg .l) s

/-- `SET 3,(HL)` (R195). -/
def execSet3_AtHL (s : State) : Result := setBit .i3 .atHL s

/-- `SET 3,A` (R194). -/
def execSet3_A (s : State) : Result := setBit .i3 (.reg .a) s

/-- `SET 4,B` (R194). -/
def execSet4_B (s : State) : Result := setBit .i4 (.reg .b) s

/-- `SET 4,C` (R194). -/
def execSet4_C (s : State) : Result := setBit .i4 (.reg .c) s

/-- `SET 4,D` (R194). -/
def execSet4_D (s : State) : Result := setBit .i4 (.reg .d) s

/-- `SET 4,E` (R194). -/
def execSet4_E (s : State) : Result := setBit .i4 (.reg .e) s

/-- `SET 4,H` (R194). -/
def execSet4_H (s : State) : Result := setBit .i4 (.reg .h) s

/-- `SET 4,L` (R194). -/
def execSet4_L (s : State) : Result := setBit .i4 (.reg .l) s

/-- `SET 4,(HL)` (R195). -/
def execSet4_AtHL (s : State) : Result := setBit .i4 .atHL s

/-- `SET 4,A` (R194). -/
def execSet4_A (s : State) : Result := setBit .i4 (.reg .a) s

/-- `SET 5,B` (R194). -/
def execSet5_B (s : State) : Result := setBit .i5 (.reg .b) s

/-- `SET 5,C` (R194). -/
def execSet5_C (s : State) : Result := setBit .i5 (.reg .c) s

/-- `SET 5,D` (R194). -/
def execSet5_D (s : State) : Result := setBit .i5 (.reg .d) s

/-- `SET 5,E` (R194). -/
def execSet5_E (s : State) : Result := setBit .i5 (.reg .e) s

/-- `SET 5,H` (R194). -/
def execSet5_H (s : State) : Result := setBit .i5 (.reg .h) s

/-- `SET 5,L` (R194). -/
def execSet5_L (s : State) : Result := setBit .i5 (.reg .l) s

/-- `SET 5,(HL)` (R195). -/
def execSet5_AtHL (s : State) : Result := setBit .i5 .atHL s

/-- `SET 5,A` (R194). -/
def execSet5_A (s : State) : Result := setBit .i5 (.reg .a) s

/-- `SET 6,B` (R194). -/
def execSet6_B (s : State) : Result := setBit .i6 (.reg .b) s

/-- `SET 6,C` (R194). -/
def execSet6_C (s : State) : Result := setBit .i6 (.reg .c) s

/-- `SET 6,D` (R194). -/
def execSet6_D (s : State) : Result := setBit .i6 (.reg .d) s

/-- `SET 6,E` (R194). -/
def execSet6_E (s : State) : Result := setBit .i6 (.reg .e) s

/-- `SET 6,H` (R194). -/
def execSet6_H (s : State) : Result := setBit .i6 (.reg .h) s

/-- `SET 6,L` (R194). -/
def execSet6_L (s : State) : Result := setBit .i6 (.reg .l) s

/-- `SET 6,(HL)` (R195). -/
def execSet6_AtHL (s : State) : Result := setBit .i6 .atHL s

/-- `SET 6,A` (R194). -/
def execSet6_A (s : State) : Result := setBit .i6 (.reg .a) s

/-- `SET 7,B` (R194). -/
def execSet7_B (s : State) : Result := setBit .i7 (.reg .b) s

/-- `SET 7,C` (R194). -/
def execSet7_C (s : State) : Result := setBit .i7 (.reg .c) s

/-- `SET 7,D` (R194). -/
def execSet7_D (s : State) : Result := setBit .i7 (.reg .d) s

/-- `SET 7,E` (R194). -/
def execSet7_E (s : State) : Result := setBit .i7 (.reg .e) s

/-- `SET 7,H` (R194). -/
def execSet7_H (s : State) : Result := setBit .i7 (.reg .h) s

/-- `SET 7,L` (R194). -/
def execSet7_L (s : State) : Result := setBit .i7 (.reg .l) s

/-- `SET 7,(HL)` (R195). -/
def execSet7_AtHL (s : State) : Result := setBit .i7 .atHL s

/-- `SET 7,A` (R194). -/
def execSet7_A (s : State) : Result := setBit .i7 (.reg .a) s

end Sys2Proof.Machine
end

