-- ==== Sys2Proof/Machine/Control.lean ====
section
/-!
DEFINITION. The control-transfer instructions (`43_control.md`, R200 to R211). All bytes of the
instruction have been fetched, so PC is the address after it: the return address and the base of a
relative jump (R25, R92).
-/

namespace Sys2Proof.Machine

/-! ### Shared operations -/

/-- `JP nn` (R200). -/
def jumpTo (nn : Word) (s : State) : Result :=
  .next ((s.setPc nn).setCycles 16)

/-- `JP cc,nn` (R201). -/
def jumpIf (cc : Cond) (nn : Word) (s : State) : Result :=
  if s.holds cc then .next ((s.setPc nn).setCycles 16) else .next (s.setCycles 12)

/-- `JP HL` (R202). -/
def jumpToHL (s : State) : Result :=
  .next ((s.setPc s.hl).setCycles 4)

/-- `JR e` (R203). -/
def jumpRelative (e : Byte) (s : State) : Result :=
  .next ((s.setPc (addSigned s.pc e)).setCycles 12)

/-- `JR cc,e` (R204). -/
def jumpRelativeIf (cc : Cond) (e : Byte) (s : State) : Result :=
  if s.holds cc then .next ((s.setPc (addSigned s.pc e)).setCycles 12)
  else .next (s.setCycles 8)

/-- `CALL nn` (R205): the push happens before PC is loaded. -/
def callTo (nn : Word) (s : State) : Result :=
  .next (((s.push16 s.pc).setPc nn).setCycles 24)

/-- `CALL cc,nn` (R206). -/
def callIf (cc : Cond) (nn : Word) (s : State) : Result :=
  if s.holds cc then .next (((s.push16 s.pc).setPc nn).setCycles 24)
  else .next (s.setCycles 12)

/-- `RET` (R207). -/
def returnFromCall (s : State) : Result :=
  let (pc, s) := s.pop16
  .next ((s.setPc pc).setCycles 16)

/-- `RET cc` (R208). -/
def returnIf (cc : Cond) (s : State) : Result :=
  if s.holds cc then
    let (pc, s) := s.pop16
    .next ((s.setPc pc).setCycles 20)
  else .next (s.setCycles 8)

/-- `RETI` (R209). -/
def returnFromHandler (s : State) : Result :=
  .next (s.leaveInterrupt.setCycles 16)

/-- `RST t` (R210). -/
def restartAt (t : Idx3) (s : State) : Result :=
  .next (((s.push16 s.pc).setPc (restartTarget t)).setCycles 16)

/-! ### One meaning per row of the opcode table -/

/-- `JR e` (R203). -/
def execJrE (e : Byte) (s : State) : Result := jumpRelative e s

/-- `JR NZ,e` (R204). -/
def execJrNZ_E (e : Byte) (s : State) : Result := jumpRelativeIf .nz e s

/-- `JR Z,e` (R204). -/
def execJrZ_E (e : Byte) (s : State) : Result := jumpRelativeIf .z e s

/-- `JR NC,e` (R204). -/
def execJrNC_E (e : Byte) (s : State) : Result := jumpRelativeIf .nc e s

/-- `JR C,e` (R204). -/
def execJrC_E (e : Byte) (s : State) : Result := jumpRelativeIf .c e s

/-- `RET NZ` (R208). -/
def execRetNZ (s : State) : Result := returnIf .nz s

/-- `JP NZ,nn` (R201). -/
def execJpNZ_NN (nn : Word) (s : State) : Result := jumpIf .nz nn s

/-- `JP nn` (R200). -/
def execJpNN (nn : Word) (s : State) : Result := jumpTo nn s

/-- `CALL NZ,nn` (R206). -/
def execCallNZ_NN (nn : Word) (s : State) : Result := callIf .nz nn s

/-- `RST 0x00` (R210). -/
def execRst00 (s : State) : Result := restartAt .i0 s

/-- `RET Z` (R208). -/
def execRetZ (s : State) : Result := returnIf .z s

/-- `RET` (R207). -/
def execRet (s : State) : Result := returnFromCall s

/-- `JP Z,nn` (R201). -/
def execJpZ_NN (nn : Word) (s : State) : Result := jumpIf .z nn s

/-- `CALL Z,nn` (R206). -/
def execCallZ_NN (nn : Word) (s : State) : Result := callIf .z nn s

/-- `CALL nn` (R205). -/
def execCallNN (nn : Word) (s : State) : Result := callTo nn s

/-- `RST 0x08` (R210). -/
def execRst08 (s : State) : Result := restartAt .i1 s

/-- `RET NC` (R208). -/
def execRetNC (s : State) : Result := returnIf .nc s

/-- `JP NC,nn` (R201). -/
def execJpNC_NN (nn : Word) (s : State) : Result := jumpIf .nc nn s

/-- `CALL NC,nn` (R206). -/
def execCallNC_NN (nn : Word) (s : State) : Result := callIf .nc nn s

/-- `RST 0x10` (R210). -/
def execRst10 (s : State) : Result := restartAt .i2 s

/-- `RET C` (R208). -/
def execRetC (s : State) : Result := returnIf .c s

/-- `RETI` (R209). -/
def execReti (s : State) : Result := returnFromHandler s

/-- `JP C,nn` (R201). -/
def execJpC_NN (nn : Word) (s : State) : Result := jumpIf .c nn s

/-- `CALL C,nn` (R206). -/
def execCallC_NN (nn : Word) (s : State) : Result := callIf .c nn s

/-- `RST 0x18` (R210). -/
def execRst18 (s : State) : Result := restartAt .i3 s

/-- `RST 0x20` (R210). -/
def execRst20 (s : State) : Result := restartAt .i4 s

/-- `JP HL` (R202). -/
def execJpHL (s : State) : Result := jumpToHL s

/-- `RST 0x28` (R210). -/
def execRst28 (s : State) : Result := restartAt .i5 s

/-- `RST 0x30` (R210). -/
def execRst30 (s : State) : Result := restartAt .i6 s

/-- `RST 0x38` (R210). -/
def execRst38 (s : State) : Result := restartAt .i7 s

end Sys2Proof.Machine
end

