-- ==== Sys2Proof/Machine/Load16.lean ====
section
/-!
DEFINITION. The 16-bit loads and the stack instructions (`46_load16_stack.md`, R260 to R268).
-/

namespace Sys2Proof.Machine

/-! ### Shared operations -/

/-- `LD rr,nn` (R261). -/
def loadPair (p : Pair16) (nn : Word) (s : State) : Result :=
  .next ((s.writePair p nn).setCycles 12)

/-- `LD (nn),SP` (R262): the low byte at nn, then the high byte at nn + 1. -/
def storeSP (nn : Word) (s : State) : Result :=
  .next (((s.memWrite nn (loByte s.sp)).memWrite (incWord nn) (hiByte s.sp)).setCycles 20)

/-- `LD SP,HL` (R263). -/
def loadSPHL (s : State) : Result :=
  .next ((s.setSp s.hl).setCycles 8)

/-- `LD HL,SP+e` (R264): Z and N are cleared, H and C are those of `ADD SP,e`. -/
def loadHLSP (e : Byte) (s : State) : Result :=
  let r := addSpByte s.sp e
  .next (((s.setHl r.result).setFlags false false r.h r.c).setCycles 12)

/-- `PUSH rr` and `PUSH AF` (R265, R268). -/
def pushPair (p : PairStk) (s : State) : Result :=
  .next ((s.push16 (s.readStk p)).setCycles 16)

/-- `POP rr` and `POP AF` (R266, R267). -/
def popPair (p : PairStk) (s : State) : Result :=
  let (v, s) := s.pop16
  .next ((s.writeStk p v).setCycles 12)

/-! ### One meaning per row of the opcode table -/

/-- `LD BC,nn` (R261). -/
def execLdBC_NN (nn : Word) (s : State) : Result := loadPair .bc nn s

/-- `LD (nn),SP` (R262). -/
def execLdAtNN_SP (nn : Word) (s : State) : Result := storeSP nn s

/-- `LD DE,nn` (R261). -/
def execLdDE_NN (nn : Word) (s : State) : Result := loadPair .de nn s

/-- `LD HL,nn` (R261). -/
def execLdHL_NN (nn : Word) (s : State) : Result := loadPair .hl nn s

/-- `LD SP,nn` (R261). -/
def execLdSP_NN (nn : Word) (s : State) : Result := loadPair .sp nn s

/-- `POP BC` (R266). -/
def execPopBC (s : State) : Result := popPair .bc s

/-- `PUSH BC` (R265). -/
def execPushBC (s : State) : Result := pushPair .bc s

/-- `POP DE` (R266). -/
def execPopDE (s : State) : Result := popPair .de s

/-- `PUSH DE` (R265). -/
def execPushDE (s : State) : Result := pushPair .de s

/-- `POP HL` (R266). -/
def execPopHL (s : State) : Result := popPair .hl s

/-- `PUSH HL` (R265). -/
def execPushHL (s : State) : Result := pushPair .hl s

/-- `POP AF` (R267). -/
def execPopAF (s : State) : Result := popPair .af s

/-- `PUSH AF` (R268). -/
def execPushAF (s : State) : Result := pushPair .af s

/-- `LD HL,SP+e` (R264). -/
def execLdHL_SPE (e : Byte) (s : State) : Result := loadHLSP e s

/-- `LD SP,HL` (R263). -/
def execLdSP_HL (s : State) : Result := loadSPHL s

end Sys2Proof.Machine
end

