-- ==== Sys2Proof/Machine/Load8.lean ====
section
/-!
DEFINITION. The 8-bit loads (`45_load8.md`, R230 to R249). None writes a flag.
-/

namespace Sys2Proof.Machine

/-! ### Shared operations -/

/-- `LD r,r'` (R231). -/
def loadRegReg (dst src : Reg8) (s : State) : Result :=
  .next ((s.setReg dst (s.getReg src)).setCycles 4)

/-- `LD r,(HL)` (R232). -/
def loadRegMem (dst : Reg8) (s : State) : Result :=
  .next ((s.setReg dst (s.memRead s.hl)).setCycles 8)

/-- `LD (HL),r` (R233). -/
def storeReg (src : Reg8) (s : State) : Result :=
  .next ((s.memWrite s.hl (s.getReg src)).setCycles 8)

/-- `LD r,n` (R234). -/
def loadRegImm (dst : Reg8) (n : Byte) (s : State) : Result :=
  .next ((s.setReg dst n).setCycles 8)

/-- `LD (HL),n` (R235). -/
def storeImm (n : Byte) (s : State) : Result :=
  .next ((s.memWrite s.hl n).setCycles 12)

/-- `LD A,(BC)`, `LD A,(DE)`, `LD A,(HL+)`, `LD A,(HL-)` (R236, R237, R242, R243). -/
def loadIndirect (i : Indirect) (s : State) : Result :=
  .next (((s.setReg .a (s.memRead (s.indirectAddress i))).indirectUpdate i).setCycles 8)

/-- `LD (BC),A`, `LD (DE),A`, `LD (HL+),A`, `LD (HL-),A` (R238 to R241). -/
def storeIndirect (i : Indirect) (s : State) : Result :=
  .next (((s.memWrite (s.indirectAddress i) (s.getReg .a)).indirectUpdate i).setCycles 8)

/-- `LDH (n),A` (R244). -/
def storeHighN (n : Byte) (s : State) : Result :=
  .next ((s.memWrite (highPage n) (s.getReg .a)).setCycles 12)

/-- `LDH A,(n)` (R245). -/
def loadHighN (n : Byte) (s : State) : Result :=
  .next ((s.setReg .a (s.memRead (highPage n))).setCycles 12)

/-- `LD (C),A` (R246). -/
def storeHighC (s : State) : Result :=
  .next ((s.memWrite (highPage (s.getReg .c)) (s.getReg .a)).setCycles 8)

/-- `LD A,(C)` (R247). -/
def loadHighC (s : State) : Result :=
  .next ((s.setReg .a (s.memRead (highPage (s.getReg .c)))).setCycles 8)

/-- `LD (nn),A` (R248). -/
def storeAbs (nn : Word) (s : State) : Result :=
  .next ((s.memWrite nn (s.getReg .a)).setCycles 16)

/-- `LD A,(nn)` (R249). -/
def loadAbs (nn : Word) (s : State) : Result :=
  .next ((s.setReg .a (s.memRead nn)).setCycles 16)

/-! ### One meaning per row of the opcode table -/

/-- `LD (BC),A` (R238). -/
def execLdAtBC_A (s : State) : Result := storeIndirect .bc s

/-- `LD B,n` (R234). -/
def execLdB_N (n : Byte) (s : State) : Result := loadRegImm .b n s

/-- `LD A,(BC)` (R236). -/
def execLdA_AtBC (s : State) : Result := loadIndirect .bc s

/-- `LD C,n` (R234). -/
def execLdC_N (n : Byte) (s : State) : Result := loadRegImm .c n s

/-- `LD (DE),A` (R239). -/
def execLdAtDE_A (s : State) : Result := storeIndirect .de s

/-- `LD D,n` (R234). -/
def execLdD_N (n : Byte) (s : State) : Result := loadRegImm .d n s

/-- `LD A,(DE)` (R237). -/
def execLdA_AtDE (s : State) : Result := loadIndirect .de s

/-- `LD E,n` (R234). -/
def execLdE_N (n : Byte) (s : State) : Result := loadRegImm .e n s

/-- `LD (HL+),A` (R240). -/
def execLdAtHLI_A (s : State) : Result := storeIndirect .hli s

/-- `LD H,n` (R234). -/
def execLdH_N (n : Byte) (s : State) : Result := loadRegImm .h n s

/-- `LD A,(HL+)` (R242). -/
def execLdA_AtHLI (s : State) : Result := loadIndirect .hli s

/-- `LD L,n` (R234). -/
def execLdL_N (n : Byte) (s : State) : Result := loadRegImm .l n s

/-- `LD (HL-),A` (R241). -/
def execLdAtHLD_A (s : State) : Result := storeIndirect .hld s

/-- `LD (HL),n` (R235). -/
def execLdAtHL_N (n : Byte) (s : State) : Result := storeImm n s

/-- `LD A,(HL-)` (R243). -/
def execLdA_AtHLD (s : State) : Result := loadIndirect .hld s

/-- `LD A,n` (R234). -/
def execLdA_N (n : Byte) (s : State) : Result := loadRegImm .a n s

/-- `LD B,B` (R231). -/
def execLdB_B (s : State) : Result := loadRegReg .b .b s

/-- `LD B,C` (R231). -/
def execLdB_C (s : State) : Result := loadRegReg .b .c s

/-- `LD B,D` (R231). -/
def execLdB_D (s : State) : Result := loadRegReg .b .d s

/-- `LD B,E` (R231). -/
def execLdB_E (s : State) : Result := loadRegReg .b .e s

/-- `LD B,H` (R231). -/
def execLdB_H (s : State) : Result := loadRegReg .b .h s

/-- `LD B,L` (R231). -/
def execLdB_L (s : State) : Result := loadRegReg .b .l s

/-- `LD B,(HL)` (R232). -/
def execLdB_AtHL (s : State) : Result := loadRegMem .b s

/-- `LD B,A` (R231). -/
def execLdB_A (s : State) : Result := loadRegReg .b .a s

/-- `LD C,B` (R231). -/
def execLdC_B (s : State) : Result := loadRegReg .c .b s

/-- `LD C,C` (R231). -/
def execLdC_C (s : State) : Result := loadRegReg .c .c s

/-- `LD C,D` (R231). -/
def execLdC_D (s : State) : Result := loadRegReg .c .d s

/-- `LD C,E` (R231). -/
def execLdC_E (s : State) : Result := loadRegReg .c .e s

/-- `LD C,H` (R231). -/
def execLdC_H (s : State) : Result := loadRegReg .c .h s

/-- `LD C,L` (R231). -/
def execLdC_L (s : State) : Result := loadRegReg .c .l s

/-- `LD C,(HL)` (R232). -/
def execLdC_AtHL (s : State) : Result := loadRegMem .c s

/-- `LD C,A` (R231). -/
def execLdC_A (s : State) : Result := loadRegReg .c .a s

/-- `LD D,B` (R231). -/
def execLdD_B (s : State) : Result := loadRegReg .d .b s

/-- `LD D,C` (R231). -/
def execLdD_C (s : State) : Result := loadRegReg .d .c s

/-- `LD D,D` (R231). -/
def execLdD_D (s : State) : Result := loadRegReg .d .d s

/-- `LD D,E` (R231). -/
def execLdD_E (s : State) : Result := loadRegReg .d .e s

/-- `LD D,H` (R231). -/
def execLdD_H (s : State) : Result := loadRegReg .d .h s

/-- `LD D,L` (R231). -/
def execLdD_L (s : State) : Result := loadRegReg .d .l s

/-- `LD D,(HL)` (R232). -/
def execLdD_AtHL (s : State) : Result := loadRegMem .d s

/-- `LD D,A` (R231). -/
def execLdD_A (s : State) : Result := loadRegReg .d .a s

/-- `LD E,B` (R231). -/
def execLdE_B (s : State) : Result := loadRegReg .e .b s

/-- `LD E,C` (R231). -/
def execLdE_C (s : State) : Result := loadRegReg .e .c s

/-- `LD E,D` (R231). -/
def execLdE_D (s : State) : Result := loadRegReg .e .d s

/-- `LD E,E` (R231). -/
def execLdE_E (s : State) : Result := loadRegReg .e .e s

/-- `LD E,H` (R231). -/
def execLdE_H (s : State) : Result := loadRegReg .e .h s

/-- `LD E,L` (R231). -/
def execLdE_L (s : State) : Result := loadRegReg .e .l s

/-- `LD E,(HL)` (R232). -/
def execLdE_AtHL (s : State) : Result := loadRegMem .e s

/-- `LD E,A` (R231). -/
def execLdE_A (s : State) : Result := loadRegReg .e .a s

/-- `LD H,B` (R231). -/
def execLdH_B (s : State) : Result := loadRegReg .h .b s

/-- `LD H,C` (R231). -/
def execLdH_C (s : State) : Result := loadRegReg .h .c s

/-- `LD H,D` (R231). -/
def execLdH_D (s : State) : Result := loadRegReg .h .d s

/-- `LD H,E` (R231). -/
def execLdH_E (s : State) : Result := loadRegReg .h .e s

/-- `LD H,H` (R231). -/
def execLdH_H (s : State) : Result := loadRegReg .h .h s

/-- `LD H,L` (R231). -/
def execLdH_L (s : State) : Result := loadRegReg .h .l s

/-- `LD H,(HL)` (R232). -/
def execLdH_AtHL (s : State) : Result := loadRegMem .h s

/-- `LD H,A` (R231). -/
def execLdH_A (s : State) : Result := loadRegReg .h .a s

/-- `LD L,B` (R231). -/
def execLdL_B (s : State) : Result := loadRegReg .l .b s

/-- `LD L,C` (R231). -/
def execLdL_C (s : State) : Result := loadRegReg .l .c s

/-- `LD L,D` (R231). -/
def execLdL_D (s : State) : Result := loadRegReg .l .d s

/-- `LD L,E` (R231). -/
def execLdL_E (s : State) : Result := loadRegReg .l .e s

/-- `LD L,H` (R231). -/
def execLdL_H (s : State) : Result := loadRegReg .l .h s

/-- `LD L,L` (R231). -/
def execLdL_L (s : State) : Result := loadRegReg .l .l s

/-- `LD L,(HL)` (R232). -/
def execLdL_AtHL (s : State) : Result := loadRegMem .l s

/-- `LD L,A` (R231). -/
def execLdL_A (s : State) : Result := loadRegReg .l .a s

/-- `LD (HL),B` (R233). -/
def execLdAtHL_B (s : State) : Result := storeReg .b s

/-- `LD (HL),C` (R233). -/
def execLdAtHL_C (s : State) : Result := storeReg .c s

/-- `LD (HL),D` (R233). -/
def execLdAtHL_D (s : State) : Result := storeReg .d s

/-- `LD (HL),E` (R233). -/
def execLdAtHL_E (s : State) : Result := storeReg .e s

/-- `LD (HL),H` (R233). -/
def execLdAtHL_H (s : State) : Result := storeReg .h s

/-- `LD (HL),L` (R233). -/
def execLdAtHL_L (s : State) : Result := storeReg .l s

/-- `LD (HL),A` (R233). -/
def execLdAtHL_A (s : State) : Result := storeReg .a s

/-- `LD A,B` (R231). -/
def execLdA_B (s : State) : Result := loadRegReg .a .b s

/-- `LD A,C` (R231). -/
def execLdA_C (s : State) : Result := loadRegReg .a .c s

/-- `LD A,D` (R231). -/
def execLdA_D (s : State) : Result := loadRegReg .a .d s

/-- `LD A,E` (R231). -/
def execLdA_E (s : State) : Result := loadRegReg .a .e s

/-- `LD A,H` (R231). -/
def execLdA_H (s : State) : Result := loadRegReg .a .h s

/-- `LD A,L` (R231). -/
def execLdA_L (s : State) : Result := loadRegReg .a .l s

/-- `LD A,(HL)` (R232). -/
def execLdA_AtHL (s : State) : Result := loadRegMem .a s

/-- `LD A,A` (R231). -/
def execLdA_A (s : State) : Result := loadRegReg .a .a s

/-- `LDH (n),A` (R244). -/
def execLdhAtN_A (n : Byte) (s : State) : Result := storeHighN n s

/-- `LD (C),A` (R246). -/
def execLdAtC_A (s : State) : Result := storeHighC s

/-- `LD (nn),A` (R248). -/
def execLdAtNN_A (nn : Word) (s : State) : Result := storeAbs nn s

/-- `LDH A,(n)` (R245). -/
def execLdhA_AtN (n : Byte) (s : State) : Result := loadHighN n s

/-- `LD A,(C)` (R247). -/
def execLdA_AtC (s : State) : Result := loadHighC s

/-- `LD A,(nn)` (R249). -/
def execLdA_AtNN (nn : Word) (s : State) : Result := loadAbs nn s

end Sys2Proof.Machine
end

