-- ==== Sys2Proof/Machine/RotShift.lean ====
section
/-!
DEFINITION. The rotate and shift instructions (`42_rotate_shift_bit.md`, R170 to R189).
-/

namespace Sys2Proof.Machine

/-! ### Shared operations -/

/-- `RLCA`, `RRCA`, `RLA`, `RRA` (R170 to R173): Z is cleared whatever the result. -/
def rotAccumulator (k : RotOp) (s : State) : Result :=
  let r := RotOp.run k (s.getReg .a) s.flagC
  .next (((s.setReg .a r.1).setFlags false false false r.2).setCycles 4)

/-- A rotate or shift of the extended table (R174 to R189): Z is the result's zero-ness. -/
def rotOperand (k : RotOp) (o : Operand8) (s : State) : Result :=
  let r := RotOp.run k (s.readOperand o) s.flagC
  .next (((s.writeOperand o r.1).setFlags (r.1 == 0) false false r.2).setCycles (costOf o 8 16))

/-! ### One meaning per row of the opcode table -/

/-- `RLCA` (R170). -/
def execRlca (s : State) : Result := rotAccumulator .rlc s

/-- `RRCA` (R172). -/
def execRrca (s : State) : Result := rotAccumulator .rrc s

/-- `RLA` (R171). -/
def execRla (s : State) : Result := rotAccumulator .rl s

/-- `RRA` (R173). -/
def execRra (s : State) : Result := rotAccumulator .rr s

/-- `RLC B` (R174). -/
def execRlcB (s : State) : Result := rotOperand .rlc (.reg .b) s

/-- `RLC C` (R174). -/
def execRlcC (s : State) : Result := rotOperand .rlc (.reg .c) s

/-- `RLC D` (R174). -/
def execRlcD (s : State) : Result := rotOperand .rlc (.reg .d) s

/-- `RLC E` (R174). -/
def execRlcE (s : State) : Result := rotOperand .rlc (.reg .e) s

/-- `RLC H` (R174). -/
def execRlcH (s : State) : Result := rotOperand .rlc (.reg .h) s

/-- `RLC L` (R174). -/
def execRlcL (s : State) : Result := rotOperand .rlc (.reg .l) s

/-- `RLC (HL)` (R175). -/
def execRlcAtHL (s : State) : Result := rotOperand .rlc .atHL s

/-- `RLC A` (R174). -/
def execRlcA (s : State) : Result := rotOperand .rlc (.reg .a) s

/-- `RRC B` (R176). -/
def execRrcB (s : State) : Result := rotOperand .rrc (.reg .b) s

/-- `RRC C` (R176). -/
def execRrcC (s : State) : Result := rotOperand .rrc (.reg .c) s

/-- `RRC D` (R176). -/
def execRrcD (s : State) : Result := rotOperand .rrc (.reg .d) s

/-- `RRC E` (R176). -/
def execRrcE (s : State) : Result := rotOperand .rrc (.reg .e) s

/-- `RRC H` (R176). -/
def execRrcH (s : State) : Result := rotOperand .rrc (.reg .h) s

/-- `RRC L` (R176). -/
def execRrcL (s : State) : Result := rotOperand .rrc (.reg .l) s

/-- `RRC (HL)` (R177). -/
def execRrcAtHL (s : State) : Result := rotOperand .rrc .atHL s

/-- `RRC A` (R176). -/
def execRrcA (s : State) : Result := rotOperand .rrc (.reg .a) s

/-- `RL B` (R178). -/
def execRlB (s : State) : Result := rotOperand .rl (.reg .b) s

/-- `RL C` (R178). -/
def execRlC (s : State) : Result := rotOperand .rl (.reg .c) s

/-- `RL D` (R178). -/
def execRlD (s : State) : Result := rotOperand .rl (.reg .d) s

/-- `RL E` (R178). -/
def execRlE (s : State) : Result := rotOperand .rl (.reg .e) s

/-- `RL H` (R178). -/
def execRlH (s : State) : Result := rotOperand .rl (.reg .h) s

/-- `RL L` (R178). -/
def execRlL (s : State) : Result := rotOperand .rl (.reg .l) s

/-- `RL (HL)` (R179). -/
def execRlAtHL (s : State) : Result := rotOperand .rl .atHL s

/-- `RL A` (R178). -/
def execRlA (s : State) : Result := rotOperand .rl (.reg .a) s

/-- `RR B` (R180). -/
def execRrB (s : State) : Result := rotOperand .rr (.reg .b) s

/-- `RR C` (R180). -/
def execRrC (s : State) : Result := rotOperand .rr (.reg .c) s

/-- `RR D` (R180). -/
def execRrD (s : State) : Result := rotOperand .rr (.reg .d) s

/-- `RR E` (R180). -/
def execRrE (s : State) : Result := rotOperand .rr (.reg .e) s

/-- `RR H` (R180). -/
def execRrH (s : State) : Result := rotOperand .rr (.reg .h) s

/-- `RR L` (R180). -/
def execRrL (s : State) : Result := rotOperand .rr (.reg .l) s

/-- `RR (HL)` (R181). -/
def execRrAtHL (s : State) : Result := rotOperand .rr .atHL s

/-- `RR A` (R180). -/
def execRrA (s : State) : Result := rotOperand .rr (.reg .a) s

/-- `SLA B` (R182). -/
def execSlaB (s : State) : Result := rotOperand .sla (.reg .b) s

/-- `SLA C` (R182). -/
def execSlaC (s : State) : Result := rotOperand .sla (.reg .c) s

/-- `SLA D` (R182). -/
def execSlaD (s : State) : Result := rotOperand .sla (.reg .d) s

/-- `SLA E` (R182). -/
def execSlaE (s : State) : Result := rotOperand .sla (.reg .e) s

/-- `SLA H` (R182). -/
def execSlaH (s : State) : Result := rotOperand .sla (.reg .h) s

/-- `SLA L` (R182). -/
def execSlaL (s : State) : Result := rotOperand .sla (.reg .l) s

/-- `SLA (HL)` (R183). -/
def execSlaAtHL (s : State) : Result := rotOperand .sla .atHL s

/-- `SLA A` (R182). -/
def execSlaA (s : State) : Result := rotOperand .sla (.reg .a) s

/-- `SRA B` (R184). -/
def execSraB (s : State) : Result := rotOperand .sra (.reg .b) s

/-- `SRA C` (R184). -/
def execSraC (s : State) : Result := rotOperand .sra (.reg .c) s

/-- `SRA D` (R184). -/
def execSraD (s : State) : Result := rotOperand .sra (.reg .d) s

/-- `SRA E` (R184). -/
def execSraE (s : State) : Result := rotOperand .sra (.reg .e) s

/-- `SRA H` (R184). -/
def execSraH (s : State) : Result := rotOperand .sra (.reg .h) s

/-- `SRA L` (R184). -/
def execSraL (s : State) : Result := rotOperand .sra (.reg .l) s

/-- `SRA (HL)` (R185). -/
def execSraAtHL (s : State) : Result := rotOperand .sra .atHL s

/-- `SRA A` (R184). -/
def execSraA (s : State) : Result := rotOperand .sra (.reg .a) s

/-- `SWAP B` (R188). -/
def execSwapB (s : State) : Result := rotOperand .swap (.reg .b) s

/-- `SWAP C` (R188). -/
def execSwapC (s : State) : Result := rotOperand .swap (.reg .c) s

/-- `SWAP D` (R188). -/
def execSwapD (s : State) : Result := rotOperand .swap (.reg .d) s

/-- `SWAP E` (R188). -/
def execSwapE (s : State) : Result := rotOperand .swap (.reg .e) s

/-- `SWAP H` (R188). -/
def execSwapH (s : State) : Result := rotOperand .swap (.reg .h) s

/-- `SWAP L` (R188). -/
def execSwapL (s : State) : Result := rotOperand .swap (.reg .l) s

/-- `SWAP (HL)` (R189). -/
def execSwapAtHL (s : State) : Result := rotOperand .swap .atHL s

/-- `SWAP A` (R188). -/
def execSwapA (s : State) : Result := rotOperand .swap (.reg .a) s

/-- `SRL B` (R186). -/
def execSrlB (s : State) : Result := rotOperand .srl (.reg .b) s

/-- `SRL C` (R186). -/
def execSrlC (s : State) : Result := rotOperand .srl (.reg .c) s

/-- `SRL D` (R186). -/
def execSrlD (s : State) : Result := rotOperand .srl (.reg .d) s

/-- `SRL E` (R186). -/
def execSrlE (s : State) : Result := rotOperand .srl (.reg .e) s

/-- `SRL H` (R186). -/
def execSrlH (s : State) : Result := rotOperand .srl (.reg .h) s

/-- `SRL L` (R186). -/
def execSrlL (s : State) : Result := rotOperand .srl (.reg .l) s

/-- `SRL (HL)` (R187). -/
def execSrlAtHL (s : State) : Result := rotOperand .srl .atHL s

/-- `SRL A` (R186). -/
def execSrlA (s : State) : Result := rotOperand .srl (.reg .a) s

end Sys2Proof.Machine
end

