-- ==== Sys2Proof/WellFormed.lean ====
section
/-!
DEFINITION. Well-formed instructions: the ones a word of the opcode table stands for. Every operand
type holds exactly the values its field can take (R94), so two checks remain: the operand of
`illegal` is one of the eleven illegal first bytes, and `cb` is no instruction of its own.
-/

namespace Sys2Proof

/-- The eleven illegal first bytes (R109). -/
def illegalBytes : List Byte :=
  [0xD3, 0xDB, 0xDD, 0xE3, 0xE4, 0xEB, 0xEC, 0xED, 0xF4, 0xFC, 0xFD]

/-- Whether an instruction is one that decoding can yield. `cb` is the prefix byte, not an
instruction (R226): its words are those of the extended instruction its second byte selects. -/
def Instr.wellFormed : Instr → Bool
  | .illegal op => illegalBytes.contains op
  | .cb _ => false
  | _ => true

end Sys2Proof
end

