-- ==== Sys2Proof/Decode.lean ====
section
/-!
DEFINITION. Decoding and encoding. `decodeBytes` reads the fields x, y, z of an opcode byte (R93) by
the operand codes of R96 to R103 and the block maps R106 and R107. `encode` is written from the rows
of `spec/opcode_table.json` instead, so that the round trip holds the two descriptions against each
other. Every encoding of this spec is public knowledge of the SM83, not in its source (R90, D1).
-/

namespace Sys2Proof

/-! ### Operand codes -/

/-- A three-bit field as an index; values above 7 do not occur. -/
def Idx3.ofField : Nat → Idx3
  | 0 => .i0
  | 1 => .i1
  | 2 => .i2
  | 3 => .i3
  | 4 => .i4
  | 5 => .i5
  | 6 => .i6
  | _ => .i7

/-- The value 0..7 of an index. -/
def Idx3.val : Idx3 → Nat
  | .i0 => 0
  | .i1 => 1
  | .i2 => 2
  | .i3 => 3
  | .i4 => 4
  | .i5 => 5
  | .i6 => 6
  | .i7 => 7

/-- `x = op[7:6]` (R93). -/
def fieldX (op : Byte) : Nat := op.toNat / 64

/-- `y = op[5:3]` (R93). -/
def fieldY (op : Byte) : Idx3 := Idx3.ofField (op.toNat / 8 % 8)

/-- `z = op[2:0]` (R93). -/
def fieldZ (op : Byte) : Idx3 := Idx3.ofField (op.toNat % 8)

/-- `q = op[3]` (R93), from y. -/
def Idx3.q : Idx3 → Bool
  | .i0 | .i2 | .i4 | .i6 => false
  | .i1 | .i3 | .i5 | .i7 => true

/-- The 8-bit operand code (R96). -/
def Operand8.ofCode : Idx3 → Operand8
  | .i0 => .reg .b
  | .i1 => .reg .c
  | .i2 => .reg .d
  | .i3 => .reg .e
  | .i4 => .reg .h
  | .i5 => .reg .l
  | .i6 => .atHL
  | .i7 => .reg .a

/-- The register-pair code p (R97), where `p = op[5:4]` is read from y. -/
def Pair16.ofCode : Idx3 → Pair16
  | .i0 | .i1 => .bc
  | .i2 | .i3 => .de
  | .i4 | .i5 => .hl
  | .i6 | .i7 => .sp

/-- The stack register-pair code p (R98), read from y. -/
def PairStk.ofCode : Idx3 → PairStk
  | .i0 | .i1 => .bc
  | .i2 | .i3 => .de
  | .i4 | .i5 => .hl
  | .i6 | .i7 => .af

/-- The indirect-pair code p (R102), read from y. -/
def Indirect.ofCode : Idx3 → Indirect
  | .i0 | .i1 => .bc
  | .i2 | .i3 => .de
  | .i4 | .i5 => .hli
  | .i6 | .i7 => .hld

/-- The condition code `y[1:0]` (R99). -/
def Cond.ofCode : Idx3 → Cond
  | .i0 | .i4 => .nz
  | .i1 | .i5 => .z
  | .i2 | .i6 => .nc
  | .i3 | .i7 => .c

/-- The ALU operation code (R100). -/
def AluOp.ofCode : Idx3 → AluOp
  | .i0 => .add
  | .i1 => .adc
  | .i2 => .sub
  | .i3 => .sbc
  | .i4 => .and
  | .i5 => .xor
  | .i6 => .or
  | .i7 => .cp

/-- The rotate/shift operation code (R101). -/
def RotOp.ofCode : Idx3 → RotOp
  | .i0 => .rlc
  | .i1 => .rrc
  | .i2 => .rl
  | .i3 => .rr
  | .i4 => .sla
  | .i5 => .sra
  | .i6 => .swap
  | .i7 => .srl

/-! ### Forms and instructions -/

/-- The row of `Form.ldR16` with the given operand codes. -/
def Instr.ofLdR16 : Pair16 → Word → Instr
  | .bc, nn => .ldBC_NN nn
  | .de, nn => .ldDE_NN nn
  | .hl, nn => .ldHL_NN nn
  | .sp, nn => .ldSP_NN nn

/-- The row of `Form.ldIndA` with the given operand codes. -/
def Instr.ofLdIndA : Indirect → Instr
  | .bc => .ldAtBC_A
  | .de => .ldAtDE_A
  | .hli => .ldAtHLI_A
  | .hld => .ldAtHLD_A

/-- The row of `Form.incR16` with the given operand codes. -/
def Instr.ofIncR16 : Pair16 → Instr
  | .bc => .incBC
  | .de => .incDE
  | .hl => .incHL
  | .sp => .incSP

/-- The row of `Form.inc8` with the given operand codes. -/
def Instr.ofInc8 : Operand8 → Instr
  | .reg .b => .incB
  | .reg .c => .incC
  | .reg .d => .incD
  | .reg .e => .incE
  | .reg .h => .incH
  | .reg .l => .incL
  | .atHL => .incAtHL
  | .reg .a => .incA

/-- The row of `Form.dec8` with the given operand codes. -/
def Instr.ofDec8 : Operand8 → Instr
  | .reg .b => .decB
  | .reg .c => .decC
  | .reg .d => .decD
  | .reg .e => .decE
  | .reg .h => .decH
  | .reg .l => .decL
  | .atHL => .decAtHL
  | .reg .a => .decA

/-- The row of `Form.ldRN` with the given operand codes. -/
def Instr.ofLdRN : Reg8 → Byte → Instr
  | .b, n => .ldB_N n
  | .c, n => .ldC_N n
  | .d, n => .ldD_N n
  | .e, n => .ldE_N n
  | .h, n => .ldH_N n
  | .l, n => .ldL_N n
  | .a, n => .ldA_N n

/-- The row of `Form.addHL` with the given operand codes. -/
def Instr.ofAddHL : Pair16 → Instr
  | .bc => .addHL_BC
  | .de => .addHL_DE
  | .hl => .addHL_HL
  | .sp => .addHL_SP

/-- The row of `Form.ldAInd` with the given operand codes. -/
def Instr.ofLdAInd : Indirect → Instr
  | .bc => .ldA_AtBC
  | .de => .ldA_AtDE
  | .hli => .ldA_AtHLI
  | .hld => .ldA_AtHLD

/-- The row of `Form.decR16` with the given operand codes. -/
def Instr.ofDecR16 : Pair16 → Instr
  | .bc => .decBC
  | .de => .decDE
  | .hl => .decHL
  | .sp => .decSP

/-- The row of `Form.jrCc` with the given operand codes. -/
def Instr.ofJrCc : Cond → Byte → Instr
  | .nz, e => .jrNZ_E e
  | .z, e => .jrZ_E e
  | .nc, e => .jrNC_E e
  | .c, e => .jrC_E e

/-- The row of `Form.ldRR` with the given operand codes. -/
def Instr.ofLdRR : Reg8 → Reg8 → Instr
  | .b, .b => .ldB_B
  | .b, .c => .ldB_C
  | .b, .d => .ldB_D
  | .b, .e => .ldB_E
  | .b, .h => .ldB_H
  | .b, .l => .ldB_L
  | .b, .a => .ldB_A
  | .c, .b => .ldC_B
  | .c, .c => .ldC_C
  | .c, .d => .ldC_D
  | .c, .e => .ldC_E
  | .c, .h => .ldC_H
  | .c, .l => .ldC_L
  | .c, .a => .ldC_A
  | .d, .b => .ldD_B
  | .d, .c => .ldD_C
  | .d, .d => .ldD_D
  | .d, .e => .ldD_E
  | .d, .h => .ldD_H
  | .d, .l => .ldD_L
  | .d, .a => .ldD_A
  | .e, .b => .ldE_B
  | .e, .c => .ldE_C
  | .e, .d => .ldE_D
  | .e, .e => .ldE_E
  | .e, .h => .ldE_H
  | .e, .l => .ldE_L
  | .e, .a => .ldE_A
  | .h, .b => .ldH_B
  | .h, .c => .ldH_C
  | .h, .d => .ldH_D
  | .h, .e => .ldH_E
  | .h, .h => .ldH_H
  | .h, .l => .ldH_L
  | .h, .a => .ldH_A
  | .l, .b => .ldL_B
  | .l, .c => .ldL_C
  | .l, .d => .ldL_D
  | .l, .e => .ldL_E
  | .l, .h => .ldL_H
  | .l, .l => .ldL_L
  | .l, .a => .ldL_A
  | .a, .b => .ldA_B
  | .a, .c => .ldA_C
  | .a, .d => .ldA_D
  | .a, .e => .ldA_E
  | .a, .h => .ldA_H
  | .a, .l => .ldA_L
  | .a, .a => .ldA_A

/-- The row of `Form.ldRM` with the given operand codes. -/
def Instr.ofLdRM : Reg8 → Instr
  | .b => .ldB_AtHL
  | .c => .ldC_AtHL
  | .d => .ldD_AtHL
  | .e => .ldE_AtHL
  | .h => .ldH_AtHL
  | .l => .ldL_AtHL
  | .a => .ldA_AtHL

/-- The row of `Form.ldMR` with the given operand codes. -/
def Instr.ofLdMR : Reg8 → Instr
  | .b => .ldAtHL_B
  | .c => .ldAtHL_C
  | .d => .ldAtHL_D
  | .e => .ldAtHL_E
  | .h => .ldAtHL_H
  | .l => .ldAtHL_L
  | .a => .ldAtHL_A

/-- The row of `Form.alu` with the given operand codes. -/
def Instr.ofAlu : AluOp → Operand8 → Instr
  | .add, .reg .b => .addA_B
  | .add, .reg .c => .addA_C
  | .add, .reg .d => .addA_D
  | .add, .reg .e => .addA_E
  | .add, .reg .h => .addA_H
  | .add, .reg .l => .addA_L
  | .add, .atHL => .addA_AtHL
  | .add, .reg .a => .addA_A
  | .adc, .reg .b => .adcA_B
  | .adc, .reg .c => .adcA_C
  | .adc, .reg .d => .adcA_D
  | .adc, .reg .e => .adcA_E
  | .adc, .reg .h => .adcA_H
  | .adc, .reg .l => .adcA_L
  | .adc, .atHL => .adcA_AtHL
  | .adc, .reg .a => .adcA_A
  | .sub, .reg .b => .subB
  | .sub, .reg .c => .subC
  | .sub, .reg .d => .subD
  | .sub, .reg .e => .subE
  | .sub, .reg .h => .subH
  | .sub, .reg .l => .subL
  | .sub, .atHL => .subAtHL
  | .sub, .reg .a => .subA
  | .sbc, .reg .b => .sbcA_B
  | .sbc, .reg .c => .sbcA_C
  | .sbc, .reg .d => .sbcA_D
  | .sbc, .reg .e => .sbcA_E
  | .sbc, .reg .h => .sbcA_H
  | .sbc, .reg .l => .sbcA_L
  | .sbc, .atHL => .sbcA_AtHL
  | .sbc, .reg .a => .sbcA_A
  | .and, .reg .b => .andB
  | .and, .reg .c => .andC
  | .and, .reg .d => .andD
  | .and, .reg .e => .andE
  | .and, .reg .h => .andH
  | .and, .reg .l => .andL
  | .and, .atHL => .andAtHL
  | .and, .reg .a => .andA
  | .xor, .reg .b => .xorB
  | .xor, .reg .c => .xorC
  | .xor, .reg .d => .xorD
  | .xor, .reg .e => .xorE
  | .xor, .reg .h => .xorH
  | .xor, .reg .l => .xorL
  | .xor, .atHL => .xorAtHL
  | .xor, .reg .a => .xorA
  | .or, .reg .b => .orB
  | .or, .reg .c => .orC
  | .or, .reg .d => .orD
  | .or, .reg .e => .orE
  | .or, .reg .h => .orH
  | .or, .reg .l => .orL
  | .or, .atHL => .orAtHL
  | .or, .reg .a => .orA
  | .cp, .reg .b => .cpB
  | .cp, .reg .c => .cpC
  | .cp, .reg .d => .cpD
  | .cp, .reg .e => .cpE
  | .cp, .reg .h => .cpH
  | .cp, .reg .l => .cpL
  | .cp, .atHL => .cpAtHL
  | .cp, .reg .a => .cpA

/-- The row of `Form.retCc` with the given operand codes. -/
def Instr.ofRetCc : Cond → Instr
  | .nz => .retNZ
  | .z => .retZ
  | .nc => .retNC
  | .c => .retC

/-- The row of `Form.pop` with the given operand codes. -/
def Instr.ofPop : PairStk → Instr
  | .bc => .popBC
  | .de => .popDE
  | .hl => .popHL
  | .af => .popAF

/-- The row of `Form.jpCc` with the given operand codes. -/
def Instr.ofJpCc : Cond → Word → Instr
  | .nz, nn => .jpNZ_NN nn
  | .z, nn => .jpZ_NN nn
  | .nc, nn => .jpNC_NN nn
  | .c, nn => .jpC_NN nn

/-- The row of `Form.callCc` with the given operand codes. -/
def Instr.ofCallCc : Cond → Word → Instr
  | .nz, nn => .callNZ_NN nn
  | .z, nn => .callZ_NN nn
  | .nc, nn => .callNC_NN nn
  | .c, nn => .callC_NN nn

/-- The row of `Form.push` with the given operand codes. -/
def Instr.ofPush : PairStk → Instr
  | .bc => .pushBC
  | .de => .pushDE
  | .hl => .pushHL
  | .af => .pushAF

/-- The row of `Form.aluN` with the given operand codes. -/
def Instr.ofAluN : AluOp → Byte → Instr
  | .add, n => .addA_N n
  | .adc, n => .adcA_N n
  | .sub, n => .subN n
  | .sbc, n => .sbcA_N n
  | .and, n => .andN n
  | .xor, n => .xorN n
  | .or, n => .orN n
  | .cp, n => .cpN n

/-- The row of `Form.rst` with the given operand codes. -/
def Instr.ofRst : Idx3 → Instr
  | .i0 => .rst00
  | .i1 => .rst08
  | .i2 => .rst10
  | .i3 => .rst18
  | .i4 => .rst20
  | .i5 => .rst28
  | .i6 => .rst30
  | .i7 => .rst38

/-- The row of `Form.rot` with the given operand codes. -/
def Instr.ofRot : RotOp → Operand8 → Instr
  | .rlc, .reg .b => .rlcB
  | .rlc, .reg .c => .rlcC
  | .rlc, .reg .d => .rlcD
  | .rlc, .reg .e => .rlcE
  | .rlc, .reg .h => .rlcH
  | .rlc, .reg .l => .rlcL
  | .rlc, .atHL => .rlcAtHL
  | .rlc, .reg .a => .rlcA
  | .rrc, .reg .b => .rrcB
  | .rrc, .reg .c => .rrcC
  | .rrc, .reg .d => .rrcD
  | .rrc, .reg .e => .rrcE
  | .rrc, .reg .h => .rrcH
  | .rrc, .reg .l => .rrcL
  | .rrc, .atHL => .rrcAtHL
  | .rrc, .reg .a => .rrcA
  | .rl, .reg .b => .rlB
  | .rl, .reg .c => .rlC
  | .rl, .reg .d => .rlD
  | .rl, .reg .e => .rlE
  | .rl, .reg .h => .rlH
  | .rl, .reg .l => .rlL
  | .rl, .atHL => .rlAtHL
  | .rl, .reg .a => .rlA
  | .rr, .reg .b => .rrB
  | .rr, .reg .c => .rrC
  | .rr, .reg .d => .rrD
  | .rr, .reg .e => .rrE
  | .rr, .reg .h => .rrH
  | .rr, .reg .l => .rrL
  | .rr, .atHL => .rrAtHL
  | .rr, .reg .a => .rrA
  | .sla, .reg .b => .slaB
  | .sla, .reg .c => .slaC
  | .sla, .reg .d => .slaD
  | .sla, .reg .e => .slaE
  | .sla, .reg .h => .slaH
  | .sla, .reg .l => .slaL
  | .sla, .atHL => .slaAtHL
  | .sla, .reg .a => .slaA
  | .sra, .reg .b => .sraB
  | .sra, .reg .c => .sraC
  | .sra, .reg .d => .sraD
  | .sra, .reg .e => .sraE
  | .sra, .reg .h => .sraH
  | .sra, .reg .l => .sraL
  | .sra, .atHL => .sraAtHL
  | .sra, .reg .a => .sraA
  | .swap, .reg .b => .swapB
  | .swap, .reg .c => .swapC
  | .swap, .reg .d => .swapD
  | .swap, .reg .e => .swapE
  | .swap, .reg .h => .swapH
  | .swap, .reg .l => .swapL
  | .swap, .atHL => .swapAtHL
  | .swap, .reg .a => .swapA
  | .srl, .reg .b => .srlB
  | .srl, .reg .c => .srlC
  | .srl, .reg .d => .srlD
  | .srl, .reg .e => .srlE
  | .srl, .reg .h => .srlH
  | .srl, .reg .l => .srlL
  | .srl, .atHL => .srlAtHL
  | .srl, .reg .a => .srlA

/-- The row of `Form.bit` with the given operand codes. -/
def Instr.ofBit : Idx3 → Operand8 → Instr
  | .i0, .reg .b => .bit0_B
  | .i0, .reg .c => .bit0_C
  | .i0, .reg .d => .bit0_D
  | .i0, .reg .e => .bit0_E
  | .i0, .reg .h => .bit0_H
  | .i0, .reg .l => .bit0_L
  | .i0, .atHL => .bit0_AtHL
  | .i0, .reg .a => .bit0_A
  | .i1, .reg .b => .bit1_B
  | .i1, .reg .c => .bit1_C
  | .i1, .reg .d => .bit1_D
  | .i1, .reg .e => .bit1_E
  | .i1, .reg .h => .bit1_H
  | .i1, .reg .l => .bit1_L
  | .i1, .atHL => .bit1_AtHL
  | .i1, .reg .a => .bit1_A
  | .i2, .reg .b => .bit2_B
  | .i2, .reg .c => .bit2_C
  | .i2, .reg .d => .bit2_D
  | .i2, .reg .e => .bit2_E
  | .i2, .reg .h => .bit2_H
  | .i2, .reg .l => .bit2_L
  | .i2, .atHL => .bit2_AtHL
  | .i2, .reg .a => .bit2_A
  | .i3, .reg .b => .bit3_B
  | .i3, .reg .c => .bit3_C
  | .i3, .reg .d => .bit3_D
  | .i3, .reg .e => .bit3_E
  | .i3, .reg .h => .bit3_H
  | .i3, .reg .l => .bit3_L
  | .i3, .atHL => .bit3_AtHL
  | .i3, .reg .a => .bit3_A
  | .i4, .reg .b => .bit4_B
  | .i4, .reg .c => .bit4_C
  | .i4, .reg .d => .bit4_D
  | .i4, .reg .e => .bit4_E
  | .i4, .reg .h => .bit4_H
  | .i4, .reg .l => .bit4_L
  | .i4, .atHL => .bit4_AtHL
  | .i4, .reg .a => .bit4_A
  | .i5, .reg .b => .bit5_B
  | .i5, .reg .c => .bit5_C
  | .i5, .reg .d => .bit5_D
  | .i5, .reg .e => .bit5_E
  | .i5, .reg .h => .bit5_H
  | .i5, .reg .l => .bit5_L
  | .i5, .atHL => .bit5_AtHL
  | .i5, .reg .a => .bit5_A
  | .i6, .reg .b => .bit6_B
  | .i6, .reg .c => .bit6_C
  | .i6, .reg .d => .bit6_D
  | .i6, .reg .e => .bit6_E
  | .i6, .reg .h => .bit6_H
  | .i6, .reg .l => .bit6_L
  | .i6, .atHL => .bit6_AtHL
  | .i6, .reg .a => .bit6_A
  | .i7, .reg .b => .bit7_B
  | .i7, .reg .c => .bit7_C
  | .i7, .reg .d => .bit7_D
  | .i7, .reg .e => .bit7_E
  | .i7, .reg .h => .bit7_H
  | .i7, .reg .l => .bit7_L
  | .i7, .atHL => .bit7_AtHL
  | .i7, .reg .a => .bit7_A

/-- The row of `Form.res` with the given operand codes. -/
def Instr.ofRes : Idx3 → Operand8 → Instr
  | .i0, .reg .b => .res0_B
  | .i0, .reg .c => .res0_C
  | .i0, .reg .d => .res0_D
  | .i0, .reg .e => .res0_E
  | .i0, .reg .h => .res0_H
  | .i0, .reg .l => .res0_L
  | .i0, .atHL => .res0_AtHL
  | .i0, .reg .a => .res0_A
  | .i1, .reg .b => .res1_B
  | .i1, .reg .c => .res1_C
  | .i1, .reg .d => .res1_D
  | .i1, .reg .e => .res1_E
  | .i1, .reg .h => .res1_H
  | .i1, .reg .l => .res1_L
  | .i1, .atHL => .res1_AtHL
  | .i1, .reg .a => .res1_A
  | .i2, .reg .b => .res2_B
  | .i2, .reg .c => .res2_C
  | .i2, .reg .d => .res2_D
  | .i2, .reg .e => .res2_E
  | .i2, .reg .h => .res2_H
  | .i2, .reg .l => .res2_L
  | .i2, .atHL => .res2_AtHL
  | .i2, .reg .a => .res2_A
  | .i3, .reg .b => .res3_B
  | .i3, .reg .c => .res3_C
  | .i3, .reg .d => .res3_D
  | .i3, .reg .e => .res3_E
  | .i3, .reg .h => .res3_H
  | .i3, .reg .l => .res3_L
  | .i3, .atHL => .res3_AtHL
  | .i3, .reg .a => .res3_A
  | .i4, .reg .b => .res4_B
  | .i4, .reg .c => .res4_C
  | .i4, .reg .d => .res4_D
  | .i4, .reg .e => .res4_E
  | .i4, .reg .h => .res4_H
  | .i4, .reg .l => .res4_L
  | .i4, .atHL => .res4_AtHL
  | .i4, .reg .a => .res4_A
  | .i5, .reg .b => .res5_B
  | .i5, .reg .c => .res5_C
  | .i5, .reg .d => .res5_D
  | .i5, .reg .e => .res5_E
  | .i5, .reg .h => .res5_H
  | .i5, .reg .l => .res5_L
  | .i5, .atHL => .res5_AtHL
  | .i5, .reg .a => .res5_A
  | .i6, .reg .b => .res6_B
  | .i6, .reg .c => .res6_C
  | .i6, .reg .d => .res6_D
  | .i6, .reg .e => .res6_E
  | .i6, .reg .h => .res6_H
  | .i6, .reg .l => .res6_L
  | .i6, .atHL => .res6_AtHL
  | .i6, .reg .a => .res6_A
  | .i7, .reg .b => .res7_B
  | .i7, .reg .c => .res7_C
  | .i7, .reg .d => .res7_D
  | .i7, .reg .e => .res7_E
  | .i7, .reg .h => .res7_H
  | .i7, .reg .l => .res7_L
  | .i7, .atHL => .res7_AtHL
  | .i7, .reg .a => .res7_A

/-- The row of `Form.set` with the given operand codes. -/
def Instr.ofSet : Idx3 → Operand8 → Instr
  | .i0, .reg .b => .set0_B
  | .i0, .reg .c => .set0_C
  | .i0, .reg .d => .set0_D
  | .i0, .reg .e => .set0_E
  | .i0, .reg .h => .set0_H
  | .i0, .reg .l => .set0_L
  | .i0, .atHL => .set0_AtHL
  | .i0, .reg .a => .set0_A
  | .i1, .reg .b => .set1_B
  | .i1, .reg .c => .set1_C
  | .i1, .reg .d => .set1_D
  | .i1, .reg .e => .set1_E
  | .i1, .reg .h => .set1_H
  | .i1, .reg .l => .set1_L
  | .i1, .atHL => .set1_AtHL
  | .i1, .reg .a => .set1_A
  | .i2, .reg .b => .set2_B
  | .i2, .reg .c => .set2_C
  | .i2, .reg .d => .set2_D
  | .i2, .reg .e => .set2_E
  | .i2, .reg .h => .set2_H
  | .i2, .reg .l => .set2_L
  | .i2, .atHL => .set2_AtHL
  | .i2, .reg .a => .set2_A
  | .i3, .reg .b => .set3_B
  | .i3, .reg .c => .set3_C
  | .i3, .reg .d => .set3_D
  | .i3, .reg .e => .set3_E
  | .i3, .reg .h => .set3_H
  | .i3, .reg .l => .set3_L
  | .i3, .atHL => .set3_AtHL
  | .i3, .reg .a => .set3_A
  | .i4, .reg .b => .set4_B
  | .i4, .reg .c => .set4_C
  | .i4, .reg .d => .set4_D
  | .i4, .reg .e => .set4_E
  | .i4, .reg .h => .set4_H
  | .i4, .reg .l => .set4_L
  | .i4, .atHL => .set4_AtHL
  | .i4, .reg .a => .set4_A
  | .i5, .reg .b => .set5_B
  | .i5, .reg .c => .set5_C
  | .i5, .reg .d => .set5_D
  | .i5, .reg .e => .set5_E
  | .i5, .reg .h => .set5_H
  | .i5, .reg .l => .set5_L
  | .i5, .atHL => .set5_AtHL
  | .i5, .reg .a => .set5_A
  | .i6, .reg .b => .set6_B
  | .i6, .reg .c => .set6_C
  | .i6, .reg .d => .set6_D
  | .i6, .reg .e => .set6_E
  | .i6, .reg .h => .set6_H
  | .i6, .reg .l => .set6_L
  | .i6, .atHL => .set6_AtHL
  | .i6, .reg .a => .set6_A
  | .i7, .reg .b => .set7_B
  | .i7, .reg .c => .set7_C
  | .i7, .reg .d => .set7_D
  | .i7, .reg .e => .set7_E
  | .i7, .reg .h => .set7_H
  | .i7, .reg .l => .set7_L
  | .i7, .atHL => .set7_AtHL
  | .i7, .reg .a => .set7_A

/-- The instruction of a form: the row of the opcode table with those operands. -/
def Form.instr : Form → Instr
  | .nop => .nop
  | .ldR16 p nn => Instr.ofLdR16 p nn
  | .ldIndA i => Instr.ofLdIndA i
  | .incR16 p => Instr.ofIncR16 p
  | .inc8 o => Instr.ofInc8 o
  | .dec8 o => Instr.ofDec8 o
  | .ldRN r n => Instr.ofLdRN r n
  | .rlca => .rlca
  | .ldNNSP nn => .ldAtNN_SP nn
  | .addHL p => Instr.ofAddHL p
  | .ldAInd i => Instr.ofLdAInd i
  | .decR16 p => Instr.ofDecR16 p
  | .rrca => .rrca
  | .stop pad => .stop pad
  | .rla => .rla
  | .jr e => .jrE e
  | .rra => .rra
  | .jrCc cc e => Instr.ofJrCc cc e
  | .daa => .daa
  | .cpl => .cpl
  | .ldMN n => .ldAtHL_N n
  | .scf => .scf
  | .ccf => .ccf
  | .ldRR r1 r2 => Instr.ofLdRR r1 r2
  | .ldRM r => Instr.ofLdRM r
  | .ldMR r => Instr.ofLdMR r
  | .halt => .halt
  | .alu k o => Instr.ofAlu k o
  | .retCc cc => Instr.ofRetCc cc
  | .pop p => Instr.ofPop p
  | .jpCc cc nn => Instr.ofJpCc cc nn
  | .jp nn => .jpNN nn
  | .callCc cc nn => Instr.ofCallCc cc nn
  | .push p => Instr.ofPush p
  | .aluN k n => Instr.ofAluN k n
  | .rst b => Instr.ofRst b
  | .ret => .ret
  | .cbPrefix op2 => .cb op2
  | .call nn => .callNN nn
  | .illegal op => .illegal op
  | .reti => .reti
  | .ldhNA n => .ldhAtN_A n
  | .ldCA => .ldAtC_A
  | .addSP e => .addSP_E e
  | .jpHL => .jpHL
  | .ldNNA nn => .ldAtNN_A nn
  | .ldhAN n => .ldhA_AtN n
  | .ldAC => .ldA_AtC
  | .di => .di
  | .ldHLSP e => .ldHL_SPE e
  | .ldSPHL => .ldSP_HL
  | .ldANN nn => .ldA_AtNN nn
  | .ei => .ei
  | .rot k o => Instr.ofRot k o
  | .bit b o => Instr.ofBit b o
  | .res b o => Instr.ofRes b o
  | .set b o => Instr.ofSet b o

/-- The form of an instruction: its operand shape and operand codes. -/
def Instr.form : Instr → Form
  | .nop => .nop
  | .ldBC_NN nn => .ldR16 .bc nn
  | .ldAtBC_A => .ldIndA .bc
  | .incBC => .incR16 .bc
  | .incB => .inc8 (.reg .b)
  | .decB => .dec8 (.reg .b)
  | .ldB_N n => .ldRN .b n
  | .rlca => .rlca
  | .ldAtNN_SP nn => .ldNNSP nn
  | .addHL_BC => .addHL .bc
  | .ldA_AtBC => .ldAInd .bc
  | .decBC => .decR16 .bc
  | .incC => .inc8 (.reg .c)
  | .decC => .dec8 (.reg .c)
  | .ldC_N n => .ldRN .c n
  | .rrca => .rrca
  | .stop pad => .stop pad
  | .ldDE_NN nn => .ldR16 .de nn
  | .ldAtDE_A => .ldIndA .de
  | .incDE => .incR16 .de
  | .incD => .inc8 (.reg .d)
  | .decD => .dec8 (.reg .d)
  | .ldD_N n => .ldRN .d n
  | .rla => .rla
  | .jrE e => .jr e
  | .addHL_DE => .addHL .de
  | .ldA_AtDE => .ldAInd .de
  | .decDE => .decR16 .de
  | .incE => .inc8 (.reg .e)
  | .decE => .dec8 (.reg .e)
  | .ldE_N n => .ldRN .e n
  | .rra => .rra
  | .jrNZ_E e => .jrCc .nz e
  | .ldHL_NN nn => .ldR16 .hl nn
  | .ldAtHLI_A => .ldIndA .hli
  | .incHL => .incR16 .hl
  | .incH => .inc8 (.reg .h)
  | .decH => .dec8 (.reg .h)
  | .ldH_N n => .ldRN .h n
  | .daa => .daa
  | .jrZ_E e => .jrCc .z e
  | .addHL_HL => .addHL .hl
  | .ldA_AtHLI => .ldAInd .hli
  | .decHL => .decR16 .hl
  | .incL => .inc8 (.reg .l)
  | .decL => .dec8 (.reg .l)
  | .ldL_N n => .ldRN .l n
  | .cpl => .cpl
  | .jrNC_E e => .jrCc .nc e
  | .ldSP_NN nn => .ldR16 .sp nn
  | .ldAtHLD_A => .ldIndA .hld
  | .incSP => .incR16 .sp
  | .incAtHL => .inc8 .atHL
  | .decAtHL => .dec8 .atHL
  | .ldAtHL_N n => .ldMN n
  | .scf => .scf
  | .jrC_E e => .jrCc .c e
  | .addHL_SP => .addHL .sp
  | .ldA_AtHLD => .ldAInd .hld
  | .decSP => .decR16 .sp
  | .incA => .inc8 (.reg .a)
  | .decA => .dec8 (.reg .a)
  | .ldA_N n => .ldRN .a n
  | .ccf => .ccf
  | .ldB_B => .ldRR .b .b
  | .ldB_C => .ldRR .b .c
  | .ldB_D => .ldRR .b .d
  | .ldB_E => .ldRR .b .e
  | .ldB_H => .ldRR .b .h
  | .ldB_L => .ldRR .b .l
  | .ldB_AtHL => .ldRM .b
  | .ldB_A => .ldRR .b .a
  | .ldC_B => .ldRR .c .b
  | .ldC_C => .ldRR .c .c
  | .ldC_D => .ldRR .c .d
  | .ldC_E => .ldRR .c .e
  | .ldC_H => .ldRR .c .h
  | .ldC_L => .ldRR .c .l
  | .ldC_AtHL => .ldRM .c
  | .ldC_A => .ldRR .c .a
  | .ldD_B => .ldRR .d .b
  | .ldD_C => .ldRR .d .c
  | .ldD_D => .ldRR .d .d
  | .ldD_E => .ldRR .d .e
  | .ldD_H => .ldRR .d .h
  | .ldD_L => .ldRR .d .l
  | .ldD_AtHL => .ldRM .d
  | .ldD_A => .ldRR .d .a
  | .ldE_B => .ldRR .e .b
  | .ldE_C => .ldRR .e .c
  | .ldE_D => .ldRR .e .d
  | .ldE_E => .ldRR .e .e
  | .ldE_H => .ldRR .e .h
  | .ldE_L => .ldRR .e .l
  | .ldE_AtHL => .ldRM .e
  | .ldE_A => .ldRR .e .a
  | .ldH_B => .ldRR .h .b
  | .ldH_C => .ldRR .h .c
  | .ldH_D => .ldRR .h .d
  | .ldH_E => .ldRR .h .e
  | .ldH_H => .ldRR .h .h
  | .ldH_L => .ldRR .h .l
  | .ldH_AtHL => .ldRM .h
  | .ldH_A => .ldRR .h .a
  | .ldL_B => .ldRR .l .b
  | .ldL_C => .ldRR .l .c
  | .ldL_D => .ldRR .l .d
  | .ldL_E => .ldRR .l .e
  | .ldL_H => .ldRR .l .h
  | .ldL_L => .ldRR .l .l
  | .ldL_AtHL => .ldRM .l
  | .ldL_A => .ldRR .l .a
  | .ldAtHL_B => .ldMR .b
  | .ldAtHL_C => .ldMR .c
  | .ldAtHL_D => .ldMR .d
  | .ldAtHL_E => .ldMR .e
  | .ldAtHL_H => .ldMR .h
  | .ldAtHL_L => .ldMR .l
  | .halt => .halt
  | .ldAtHL_A => .ldMR .a
  | .ldA_B => .ldRR .a .b
  | .ldA_C => .ldRR .a .c
  | .ldA_D => .ldRR .a .d
  | .ldA_E => .ldRR .a .e
  | .ldA_H => .ldRR .a .h
  | .ldA_L => .ldRR .a .l
  | .ldA_AtHL => .ldRM .a
  | .ldA_A => .ldRR .a .a
  | .addA_B => .alu .add (.reg .b)
  | .addA_C => .alu .add (.reg .c)
  | .addA_D => .alu .add (.reg .d)
  | .addA_E => .alu .add (.reg .e)
  | .addA_H => .alu .add (.reg .h)
  | .addA_L => .alu .add (.reg .l)
  | .addA_AtHL => .alu .add .atHL
  | .addA_A => .alu .add (.reg .a)
  | .adcA_B => .alu .adc (.reg .b)
  | .adcA_C => .alu .adc (.reg .c)
  | .adcA_D => .alu .adc (.reg .d)
  | .adcA_E => .alu .adc (.reg .e)
  | .adcA_H => .alu .adc (.reg .h)
  | .adcA_L => .alu .adc (.reg .l)
  | .adcA_AtHL => .alu .adc .atHL
  | .adcA_A => .alu .adc (.reg .a)
  | .subB => .alu .sub (.reg .b)
  | .subC => .alu .sub (.reg .c)
  | .subD => .alu .sub (.reg .d)
  | .subE => .alu .sub (.reg .e)
  | .subH => .alu .sub (.reg .h)
  | .subL => .alu .sub (.reg .l)
  | .subAtHL => .alu .sub .atHL
  | .subA => .alu .sub (.reg .a)
  | .sbcA_B => .alu .sbc (.reg .b)
  | .sbcA_C => .alu .sbc (.reg .c)
  | .sbcA_D => .alu .sbc (.reg .d)
  | .sbcA_E => .alu .sbc (.reg .e)
  | .sbcA_H => .alu .sbc (.reg .h)
  | .sbcA_L => .alu .sbc (.reg .l)
  | .sbcA_AtHL => .alu .sbc .atHL
  | .sbcA_A => .alu .sbc (.reg .a)
  | .andB => .alu .and (.reg .b)
  | .andC => .alu .and (.reg .c)
  | .andD => .alu .and (.reg .d)
  | .andE => .alu .and (.reg .e)
  | .andH => .alu .and (.reg .h)
  | .andL => .alu .and (.reg .l)
  | .andAtHL => .alu .and .atHL
  | .andA => .alu .and (.reg .a)
  | .xorB => .alu .xor (.reg .b)
  | .xorC => .alu .xor (.reg .c)
  | .xorD => .alu .xor (.reg .d)
  | .xorE => .alu .xor (.reg .e)
  | .xorH => .alu .xor (.reg .h)
  | .xorL => .alu .xor (.reg .l)
  | .xorAtHL => .alu .xor .atHL
  | .xorA => .alu .xor (.reg .a)
  | .orB => .alu .or (.reg .b)
  | .orC => .alu .or (.reg .c)
  | .orD => .alu .or (.reg .d)
  | .orE => .alu .or (.reg .e)
  | .orH => .alu .or (.reg .h)
  | .orL => .alu .or (.reg .l)
  | .orAtHL => .alu .or .atHL
  | .orA => .alu .or (.reg .a)
  | .cpB => .alu .cp (.reg .b)
  | .cpC => .alu .cp (.reg .c)
  | .cpD => .alu .cp (.reg .d)
  | .cpE => .alu .cp (.reg .e)
  | .cpH => .alu .cp (.reg .h)
  | .cpL => .alu .cp (.reg .l)
  | .cpAtHL => .alu .cp .atHL
  | .cpA => .alu .cp (.reg .a)
  | .retNZ => .retCc .nz
  | .popBC => .pop .bc
  | .jpNZ_NN nn => .jpCc .nz nn
  | .jpNN nn => .jp nn
  | .callNZ_NN nn => .callCc .nz nn
  | .pushBC => .push .bc
  | .addA_N n => .aluN .add n
  | .rst00 => .rst .i0
  | .retZ => .retCc .z
  | .ret => .ret
  | .jpZ_NN nn => .jpCc .z nn
  | .cb op2 => .cbPrefix op2
  | .callZ_NN nn => .callCc .z nn
  | .callNN nn => .call nn
  | .adcA_N n => .aluN .adc n
  | .rst08 => .rst .i1
  | .retNC => .retCc .nc
  | .popDE => .pop .de
  | .jpNC_NN nn => .jpCc .nc nn
  | .illegal op => .illegal op
  | .callNC_NN nn => .callCc .nc nn
  | .pushDE => .push .de
  | .subN n => .aluN .sub n
  | .rst10 => .rst .i2
  | .retC => .retCc .c
  | .reti => .reti
  | .jpC_NN nn => .jpCc .c nn
  | .callC_NN nn => .callCc .c nn
  | .sbcA_N n => .aluN .sbc n
  | .rst18 => .rst .i3
  | .ldhAtN_A n => .ldhNA n
  | .popHL => .pop .hl
  | .ldAtC_A => .ldCA
  | .pushHL => .push .hl
  | .andN n => .aluN .and n
  | .rst20 => .rst .i4
  | .addSP_E e => .addSP e
  | .jpHL => .jpHL
  | .ldAtNN_A nn => .ldNNA nn
  | .xorN n => .aluN .xor n
  | .rst28 => .rst .i5
  | .ldhA_AtN n => .ldhAN n
  | .popAF => .pop .af
  | .ldA_AtC => .ldAC
  | .di => .di
  | .pushAF => .push .af
  | .orN n => .aluN .or n
  | .rst30 => .rst .i6
  | .ldHL_SPE e => .ldHLSP e
  | .ldSP_HL => .ldSPHL
  | .ldA_AtNN nn => .ldANN nn
  | .ei => .ei
  | .cpN n => .aluN .cp n
  | .rst38 => .rst .i7
  | .rlcB => .rot .rlc (.reg .b)
  | .rlcC => .rot .rlc (.reg .c)
  | .rlcD => .rot .rlc (.reg .d)
  | .rlcE => .rot .rlc (.reg .e)
  | .rlcH => .rot .rlc (.reg .h)
  | .rlcL => .rot .rlc (.reg .l)
  | .rlcAtHL => .rot .rlc .atHL
  | .rlcA => .rot .rlc (.reg .a)
  | .rrcB => .rot .rrc (.reg .b)
  | .rrcC => .rot .rrc (.reg .c)
  | .rrcD => .rot .rrc (.reg .d)
  | .rrcE => .rot .rrc (.reg .e)
  | .rrcH => .rot .rrc (.reg .h)
  | .rrcL => .rot .rrc (.reg .l)
  | .rrcAtHL => .rot .rrc .atHL
  | .rrcA => .rot .rrc (.reg .a)
  | .rlB => .rot .rl (.reg .b)
  | .rlC => .rot .rl (.reg .c)
  | .rlD => .rot .rl (.reg .d)
  | .rlE => .rot .rl (.reg .e)
  | .rlH => .rot .rl (.reg .h)
  | .rlL => .rot .rl (.reg .l)
  | .rlAtHL => .rot .rl .atHL
  | .rlA => .rot .rl (.reg .a)
  | .rrB => .rot .rr (.reg .b)
  | .rrC => .rot .rr (.reg .c)
  | .rrD => .rot .rr (.reg .d)
  | .rrE => .rot .rr (.reg .e)
  | .rrH => .rot .rr (.reg .h)
  | .rrL => .rot .rr (.reg .l)
  | .rrAtHL => .rot .rr .atHL
  | .rrA => .rot .rr (.reg .a)
  | .slaB => .rot .sla (.reg .b)
  | .slaC => .rot .sla (.reg .c)
  | .slaD => .rot .sla (.reg .d)
  | .slaE => .rot .sla (.reg .e)
  | .slaH => .rot .sla (.reg .h)
  | .slaL => .rot .sla (.reg .l)
  | .slaAtHL => .rot .sla .atHL
  | .slaA => .rot .sla (.reg .a)
  | .sraB => .rot .sra (.reg .b)
  | .sraC => .rot .sra (.reg .c)
  | .sraD => .rot .sra (.reg .d)
  | .sraE => .rot .sra (.reg .e)
  | .sraH => .rot .sra (.reg .h)
  | .sraL => .rot .sra (.reg .l)
  | .sraAtHL => .rot .sra .atHL
  | .sraA => .rot .sra (.reg .a)
  | .swapB => .rot .swap (.reg .b)
  | .swapC => .rot .swap (.reg .c)
  | .swapD => .rot .swap (.reg .d)
  | .swapE => .rot .swap (.reg .e)
  | .swapH => .rot .swap (.reg .h)
  | .swapL => .rot .swap (.reg .l)
  | .swapAtHL => .rot .swap .atHL
  | .swapA => .rot .swap (.reg .a)
  | .srlB => .rot .srl (.reg .b)
  | .srlC => .rot .srl (.reg .c)
  | .srlD => .rot .srl (.reg .d)
  | .srlE => .rot .srl (.reg .e)
  | .srlH => .rot .srl (.reg .h)
  | .srlL => .rot .srl (.reg .l)
  | .srlAtHL => .rot .srl .atHL
  | .srlA => .rot .srl (.reg .a)
  | .bit0_B => .bit .i0 (.reg .b)
  | .bit0_C => .bit .i0 (.reg .c)
  | .bit0_D => .bit .i0 (.reg .d)
  | .bit0_E => .bit .i0 (.reg .e)
  | .bit0_H => .bit .i0 (.reg .h)
  | .bit0_L => .bit .i0 (.reg .l)
  | .bit0_AtHL => .bit .i0 .atHL
  | .bit0_A => .bit .i0 (.reg .a)
  | .bit1_B => .bit .i1 (.reg .b)
  | .bit1_C => .bit .i1 (.reg .c)
  | .bit1_D => .bit .i1 (.reg .d)
  | .bit1_E => .bit .i1 (.reg .e)
  | .bit1_H => .bit .i1 (.reg .h)
  | .bit1_L => .bit .i1 (.reg .l)
  | .bit1_AtHL => .bit .i1 .atHL
  | .bit1_A => .bit .i1 (.reg .a)
  | .bit2_B => .bit .i2 (.reg .b)
  | .bit2_C => .bit .i2 (.reg .c)
  | .bit2_D => .bit .i2 (.reg .d)
  | .bit2_E => .bit .i2 (.reg .e)
  | .bit2_H => .bit .i2 (.reg .h)
  | .bit2_L => .bit .i2 (.reg .l)
  | .bit2_AtHL => .bit .i2 .atHL
  | .bit2_A => .bit .i2 (.reg .a)
  | .bit3_B => .bit .i3 (.reg .b)
  | .bit3_C => .bit .i3 (.reg .c)
  | .bit3_D => .bit .i3 (.reg .d)
  | .bit3_E => .bit .i3 (.reg .e)
  | .bit3_H => .bit .i3 (.reg .h)
  | .bit3_L => .bit .i3 (.reg .l)
  | .bit3_AtHL => .bit .i3 .atHL
  | .bit3_A => .bit .i3 (.reg .a)
  | .bit4_B => .bit .i4 (.reg .b)
  | .bit4_C => .bit .i4 (.reg .c)
  | .bit4_D => .bit .i4 (.reg .d)
  | .bit4_E => .bit .i4 (.reg .e)
  | .bit4_H => .bit .i4 (.reg .h)
  | .bit4_L => .bit .i4 (.reg .l)
  | .bit4_AtHL => .bit .i4 .atHL
  | .bit4_A => .bit .i4 (.reg .a)
  | .bit5_B => .bit .i5 (.reg .b)
  | .bit5_C => .bit .i5 (.reg .c)
  | .bit5_D => .bit .i5 (.reg .d)
  | .bit5_E => .bit .i5 (.reg .e)
  | .bit5_H => .bit .i5 (.reg .h)
  | .bit5_L => .bit .i5 (.reg .l)
  | .bit5_AtHL => .bit .i5 .atHL
  | .bit5_A => .bit .i5 (.reg .a)
  | .bit6_B => .bit .i6 (.reg .b)
  | .bit6_C => .bit .i6 (.reg .c)
  | .bit6_D => .bit .i6 (.reg .d)
  | .bit6_E => .bit .i6 (.reg .e)
  | .bit6_H => .bit .i6 (.reg .h)
  | .bit6_L => .bit .i6 (.reg .l)
  | .bit6_AtHL => .bit .i6 .atHL
  | .bit6_A => .bit .i6 (.reg .a)
  | .bit7_B => .bit .i7 (.reg .b)
  | .bit7_C => .bit .i7 (.reg .c)
  | .bit7_D => .bit .i7 (.reg .d)
  | .bit7_E => .bit .i7 (.reg .e)
  | .bit7_H => .bit .i7 (.reg .h)
  | .bit7_L => .bit .i7 (.reg .l)
  | .bit7_AtHL => .bit .i7 .atHL
  | .bit7_A => .bit .i7 (.reg .a)
  | .res0_B => .res .i0 (.reg .b)
  | .res0_C => .res .i0 (.reg .c)
  | .res0_D => .res .i0 (.reg .d)
  | .res0_E => .res .i0 (.reg .e)
  | .res0_H => .res .i0 (.reg .h)
  | .res0_L => .res .i0 (.reg .l)
  | .res0_AtHL => .res .i0 .atHL
  | .res0_A => .res .i0 (.reg .a)
  | .res1_B => .res .i1 (.reg .b)
  | .res1_C => .res .i1 (.reg .c)
  | .res1_D => .res .i1 (.reg .d)
  | .res1_E => .res .i1 (.reg .e)
  | .res1_H => .res .i1 (.reg .h)
  | .res1_L => .res .i1 (.reg .l)
  | .res1_AtHL => .res .i1 .atHL
  | .res1_A => .res .i1 (.reg .a)
  | .res2_B => .res .i2 (.reg .b)
  | .res2_C => .res .i2 (.reg .c)
  | .res2_D => .res .i2 (.reg .d)
  | .res2_E => .res .i2 (.reg .e)
  | .res2_H => .res .i2 (.reg .h)
  | .res2_L => .res .i2 (.reg .l)
  | .res2_AtHL => .res .i2 .atHL
  | .res2_A => .res .i2 (.reg .a)
  | .res3_B => .res .i3 (.reg .b)
  | .res3_C => .res .i3 (.reg .c)
  | .res3_D => .res .i3 (.reg .d)
  | .res3_E => .res .i3 (.reg .e)
  | .res3_H => .res .i3 (.reg .h)
  | .res3_L => .res .i3 (.reg .l)
  | .res3_AtHL => .res .i3 .atHL
  | .res3_A => .res .i3 (.reg .a)
  | .res4_B => .res .i4 (.reg .b)
  | .res4_C => .res .i4 (.reg .c)
  | .res4_D => .res .i4 (.reg .d)
  | .res4_E => .res .i4 (.reg .e)
  | .res4_H => .res .i4 (.reg .h)
  | .res4_L => .res .i4 (.reg .l)
  | .res4_AtHL => .res .i4 .atHL
  | .res4_A => .res .i4 (.reg .a)
  | .res5_B => .res .i5 (.reg .b)
  | .res5_C => .res .i5 (.reg .c)
  | .res5_D => .res .i5 (.reg .d)
  | .res5_E => .res .i5 (.reg .e)
  | .res5_H => .res .i5 (.reg .h)
  | .res5_L => .res .i5 (.reg .l)
  | .res5_AtHL => .res .i5 .atHL
  | .res5_A => .res .i5 (.reg .a)
  | .res6_B => .res .i6 (.reg .b)
  | .res6_C => .res .i6 (.reg .c)
  | .res6_D => .res .i6 (.reg .d)
  | .res6_E => .res .i6 (.reg .e)
  | .res6_H => .res .i6 (.reg .h)
  | .res6_L => .res .i6 (.reg .l)
  | .res6_AtHL => .res .i6 .atHL
  | .res6_A => .res .i6 (.reg .a)
  | .res7_B => .res .i7 (.reg .b)
  | .res7_C => .res .i7 (.reg .c)
  | .res7_D => .res .i7 (.reg .d)
  | .res7_E => .res .i7 (.reg .e)
  | .res7_H => .res .i7 (.reg .h)
  | .res7_L => .res .i7 (.reg .l)
  | .res7_AtHL => .res .i7 .atHL
  | .res7_A => .res .i7 (.reg .a)
  | .set0_B => .set .i0 (.reg .b)
  | .set0_C => .set .i0 (.reg .c)
  | .set0_D => .set .i0 (.reg .d)
  | .set0_E => .set .i0 (.reg .e)
  | .set0_H => .set .i0 (.reg .h)
  | .set0_L => .set .i0 (.reg .l)
  | .set0_AtHL => .set .i0 .atHL
  | .set0_A => .set .i0 (.reg .a)
  | .set1_B => .set .i1 (.reg .b)
  | .set1_C => .set .i1 (.reg .c)
  | .set1_D => .set .i1 (.reg .d)
  | .set1_E => .set .i1 (.reg .e)
  | .set1_H => .set .i1 (.reg .h)
  | .set1_L => .set .i1 (.reg .l)
  | .set1_AtHL => .set .i1 .atHL
  | .set1_A => .set .i1 (.reg .a)
  | .set2_B => .set .i2 (.reg .b)
  | .set2_C => .set .i2 (.reg .c)
  | .set2_D => .set .i2 (.reg .d)
  | .set2_E => .set .i2 (.reg .e)
  | .set2_H => .set .i2 (.reg .h)
  | .set2_L => .set .i2 (.reg .l)
  | .set2_AtHL => .set .i2 .atHL
  | .set2_A => .set .i2 (.reg .a)
  | .set3_B => .set .i3 (.reg .b)
  | .set3_C => .set .i3 (.reg .c)
  | .set3_D => .set .i3 (.reg .d)
  | .set3_E => .set .i3 (.reg .e)
  | .set3_H => .set .i3 (.reg .h)
  | .set3_L => .set .i3 (.reg .l)
  | .set3_AtHL => .set .i3 .atHL
  | .set3_A => .set .i3 (.reg .a)
  | .set4_B => .set .i4 (.reg .b)
  | .set4_C => .set .i4 (.reg .c)
  | .set4_D => .set .i4 (.reg .d)
  | .set4_E => .set .i4 (.reg .e)
  | .set4_H => .set .i4 (.reg .h)
  | .set4_L => .set .i4 (.reg .l)
  | .set4_AtHL => .set .i4 .atHL
  | .set4_A => .set .i4 (.reg .a)
  | .set5_B => .set .i5 (.reg .b)
  | .set5_C => .set .i5 (.reg .c)
  | .set5_D => .set .i5 (.reg .d)
  | .set5_E => .set .i5 (.reg .e)
  | .set5_H => .set .i5 (.reg .h)
  | .set5_L => .set .i5 (.reg .l)
  | .set5_AtHL => .set .i5 .atHL
  | .set5_A => .set .i5 (.reg .a)
  | .set6_B => .set .i6 (.reg .b)
  | .set6_C => .set .i6 (.reg .c)
  | .set6_D => .set .i6 (.reg .d)
  | .set6_E => .set .i6 (.reg .e)
  | .set6_H => .set .i6 (.reg .h)
  | .set6_L => .set .i6 (.reg .l)
  | .set6_AtHL => .set .i6 .atHL
  | .set6_A => .set .i6 (.reg .a)
  | .set7_B => .set .i7 (.reg .b)
  | .set7_C => .set .i7 (.reg .c)
  | .set7_D => .set .i7 (.reg .d)
  | .set7_E => .set .i7 (.reg .e)
  | .set7_H => .set .i7 (.reg .h)
  | .set7_L => .set .i7 (.reg .l)
  | .set7_AtHL => .set .i7 .atHL
  | .set7_A => .set .i7 (.reg .a)

/-! ### The decoder -/

/-- The block x = 0 of the unprefixed map (R106). -/
def decodeX0 (y z : Idx3) (n : Byte) (nn : Word) : Form :=
  match z with
  | .i0 =>
    match y with
    | .i0 => .nop
    | .i1 => .ldNNSP nn
    | .i2 => .stop n
    | .i3 => .jr n
    | .i4 | .i5 | .i6 | .i7 => .jrCc (Cond.ofCode y) n
  | .i1 => if y.q then .addHL (Pair16.ofCode y) else .ldR16 (Pair16.ofCode y) nn
  | .i2 => if y.q then .ldAInd (Indirect.ofCode y) else .ldIndA (Indirect.ofCode y)
  | .i3 => if y.q then .decR16 (Pair16.ofCode y) else .incR16 (Pair16.ofCode y)
  | .i4 => .inc8 (Operand8.ofCode y)
  | .i5 => .dec8 (Operand8.ofCode y)
  | .i6 =>
    match Operand8.ofCode y with
    | .reg r => .ldRN r n
    | .atHL => .ldMN n
  | .i7 =>
    match y with
    | .i0 => .rlca
    | .i1 => .rrca
    | .i2 => .rla
    | .i3 => .rra
    | .i4 => .daa
    | .i5 => .cpl
    | .i6 => .scf
    | .i7 => .ccf

/-- The block x = 1 of the unprefixed map (R106): `LD r,r'`, and HALT in the place of
`LD (HL),(HL)`. -/
def decodeX1 (y z : Idx3) : Form :=
  match Operand8.ofCode y, Operand8.ofCode z with
  | .reg dst, .reg src => .ldRR dst src
  | .reg dst, .atHL => .ldRM dst
  | .atHL, .reg src => .ldMR src
  | .atHL, .atHL => .halt

/-- The block x = 3 of the unprefixed map (R106). The prefix byte 0xCB (y = 1, z = 3) is taken before
this function is asked, in `decodeBytes`. -/
def decodeX3 (op : Byte) (y z : Idx3) (n : Byte) (nn : Word) : Form :=
  match z with
  | .i0 =>
    match y with
    | .i0 | .i1 | .i2 | .i3 => .retCc (Cond.ofCode y)
    | .i4 => .ldhNA n
    | .i5 => .addSP n
    | .i6 => .ldhAN n
    | .i7 => .ldHLSP n
  | .i1 =>
    match y with
    | .i0 | .i2 | .i4 | .i6 => .pop (PairStk.ofCode y)
    | .i1 => .ret
    | .i3 => .reti
    | .i5 => .jpHL
    | .i7 => .ldSPHL
  | .i2 =>
    match y with
    | .i0 | .i1 | .i2 | .i3 => .jpCc (Cond.ofCode y) nn
    | .i4 => .ldCA
    | .i5 => .ldNNA nn
    | .i6 => .ldAC
    | .i7 => .ldANN nn
  | .i3 =>
    match y with
    | .i0 => .jp nn
    | .i1 => .cbPrefix n
    | .i2 | .i3 | .i4 | .i5 => .illegal op
    | .i6 => .di
    | .i7 => .ei
  | .i4 =>
    match y with
    | .i0 | .i1 | .i2 | .i3 => .callCc (Cond.ofCode y) nn
    | .i4 | .i5 | .i6 | .i7 => .illegal op
  | .i5 =>
    match y with
    | .i0 | .i2 | .i4 | .i6 => .push (PairStk.ofCode y)
    | .i1 => .call nn
    | .i3 | .i5 | .i7 => .illegal op
  | .i6 => .aluN (AluOp.ofCode y) n
  | .i7 => .rst y

/-- The row of the unprefixed map for a first byte (R106, R108), `n` and `nn` being the bytes that
follow it. -/
def decodeMain (op n : Byte) (nn : Word) : Form :=
  match fieldX op with
  | 0 => decodeX0 (fieldY op) (fieldZ op) n nn
  | 1 => decodeX1 (fieldY op) (fieldZ op)
  | 2 => .alu (AluOp.ofCode (fieldY op)) (Operand8.ofCode (fieldZ op))
  | _ => decodeX3 op (fieldY op) (fieldZ op) n nn

/-- The row of the extended table for the second byte after 0xCB (R107). -/
def decodeCb (op2 : Byte) : Form :=
  match fieldX op2 with
  | 0 => .rot (RotOp.ofCode (fieldY op2)) (Operand8.ofCode (fieldZ op2))
  | 1 => .bit (fieldY op2) (Operand8.ofCode (fieldZ op2))
  | 2 => .res (fieldY op2) (Operand8.ofCode (fieldZ op2))
  | _ => .set (fieldY op2) (Operand8.ofCode (fieldZ op2))

/-- The form of the instruction whose bytes are `b0 b1 b2` in address order (R92): the extended table
after the prefix byte 0xCB, the unprefixed map otherwise. -/
def decodeForm (b0 b1 b2 : Byte) : Form :=
  if b0 = 0xCB then decodeCb b1 else decodeMain b0 b1 (joinBytes b2 b1)

/-- The instruction whose bytes are `b0 b1 b2` in address order; bytes beyond its length are not
looked at. Total: each of the eleven illegal first bytes is the instruction `illegal` (R109). -/
def decodeBytes (b0 b1 b2 : Byte) : Instr := (decodeForm b0 b1 b2).instr

/-- The length in bytes of a form (R91). -/
def Form.length : Form → Nat
  | .nop | .halt | .di | .ei => 1
  | .stop _ => 2
  | .ldRR _ _ | .ldRM _ | .ldMR _ => 1
  | .ldRN _ _ | .ldMN _ => 2
  | .ldAInd _ | .ldIndA _ => 1
  | .ldhNA _ | .ldhAN _ => 2
  | .ldCA | .ldAC => 1
  | .ldNNA _ | .ldANN _ => 3
  | .ldR16 _ _ | .ldNNSP _ => 3
  | .ldSPHL => 1
  | .ldHLSP _ => 2
  | .push _ | .pop _ => 1
  | .alu _ _ => 1
  | .aluN _ _ => 2
  | .inc8 _ | .dec8 _ => 1
  | .daa | .cpl | .scf | .ccf => 1
  | .addHL _ => 1
  | .addSP _ => 2
  | .incR16 _ | .decR16 _ => 1
  | .rlca | .rla | .rrca | .rra => 1
  | .rot _ _ | .bit _ _ | .res _ _ | .set _ _ => 2
  | .jp _ | .jpCc _ _ => 3
  | .jpHL => 1
  | .jr _ | .jrCc _ _ => 2
  | .call _ | .callCc _ _ => 3
  | .ret | .retCc _ | .reti | .rst _ => 1
  | .cbPrefix _ => 2
  | .illegal _ => 1

/-- The length in bytes of the instruction that begins with this byte: "a function of the first byte
alone" (R91). -/
def instrLength (b0 : Byte) : Nat := (decodeForm b0 0 0).length

/-- Why a list of bytes is not the beginning of an instruction. -/
inductive DecodeError where
  /-- There is no byte at all. -/
  | noBytes
  /-- The first byte asks for `needed` bytes and the list holds only `present`. -/
  | truncated (needed present : Nat)
  deriving DecidableEq, Repr

/-- Decoding on any list of bytes: the first instruction and the bytes after it, or the reason why the
list holds no whole instruction. -/
def decode : List Byte → Except DecodeError (Instr × List Byte)
  | [] => .error .noBytes
  | b0 :: rest =>
    if rest.length + 1 < instrLength b0 then
      .error (.truncated (instrLength b0) (rest.length + 1))
    else
      .ok (decodeBytes b0 (rest.getD 0 0) (rest.getD 1 0), rest.drop (instrLength b0 - 1))

/-- The instruction the decoder reads from an instruction whose bits are `w`, bit 0 being the least
significant bit of the first byte, the bits at and above `nbits` zero. A row of the extended table
is found under its two bytes, 0xCB first: `w = 0xCB + 256 * match`. -/
def decodeTableWord (nbits w : Nat) : Option Instr :=
  let v := w % 2 ^ nbits
  match decode [BitVec.ofNat 8 v, BitVec.ofNat 8 (v / 256), BitVec.ofNat 8 (v / 65536)] with
  | .ok (i, _) => some i
  | .error _ => none

/-! ### The encoder -/

/-- The bytes of an instruction, in address order: the table's `match` byte, after 0xCB for a row of
the extended table, then the immediate, low byte first (R91, R104). -/
def encode : Instr → List Byte
  | .nop => [0x00]
  | .ldBC_NN nn => [0x01, loByte nn, hiByte nn]
  | .ldAtBC_A => [0x02]
  | .incBC => [0x03]
  | .incB => [0x04]
  | .decB => [0x05]
  | .ldB_N n => [0x06, n]
  | .rlca => [0x07]
  | .ldAtNN_SP nn => [0x08, loByte nn, hiByte nn]
  | .addHL_BC => [0x09]
  | .ldA_AtBC => [0x0A]
  | .decBC => [0x0B]
  | .incC => [0x0C]
  | .decC => [0x0D]
  | .ldC_N n => [0x0E, n]
  | .rrca => [0x0F]
  | .stop pad => [0x10, pad]
  | .ldDE_NN nn => [0x11, loByte nn, hiByte nn]
  | .ldAtDE_A => [0x12]
  | .incDE => [0x13]
  | .incD => [0x14]
  | .decD => [0x15]
  | .ldD_N n => [0x16, n]
  | .rla => [0x17]
  | .jrE e => [0x18, e]
  | .addHL_DE => [0x19]
  | .ldA_AtDE => [0x1A]
  | .decDE => [0x1B]
  | .incE => [0x1C]
  | .decE => [0x1D]
  | .ldE_N n => [0x1E, n]
  | .rra => [0x1F]
  | .jrNZ_E e => [0x20, e]
  | .ldHL_NN nn => [0x21, loByte nn, hiByte nn]
  | .ldAtHLI_A => [0x22]
  | .incHL => [0x23]
  | .incH => [0x24]
  | .decH => [0x25]
  | .ldH_N n => [0x26, n]
  | .daa => [0x27]
  | .jrZ_E e => [0x28, e]
  | .addHL_HL => [0x29]
  | .ldA_AtHLI => [0x2A]
  | .decHL => [0x2B]
  | .incL => [0x2C]
  | .decL => [0x2D]
  | .ldL_N n => [0x2E, n]
  | .cpl => [0x2F]
  | .jrNC_E e => [0x30, e]
  | .ldSP_NN nn => [0x31, loByte nn, hiByte nn]
  | .ldAtHLD_A => [0x32]
  | .incSP => [0x33]
  | .incAtHL => [0x34]
  | .decAtHL => [0x35]
  | .ldAtHL_N n => [0x36, n]
  | .scf => [0x37]
  | .jrC_E e => [0x38, e]
  | .addHL_SP => [0x39]
  | .ldA_AtHLD => [0x3A]
  | .decSP => [0x3B]
  | .incA => [0x3C]
  | .decA => [0x3D]
  | .ldA_N n => [0x3E, n]
  | .ccf => [0x3F]
  | .ldB_B => [0x40]
  | .ldB_C => [0x41]
  | .ldB_D => [0x42]
  | .ldB_E => [0x43]
  | .ldB_H => [0x44]
  | .ldB_L => [0x45]
  | .ldB_AtHL => [0x46]
  | .ldB_A => [0x47]
  | .ldC_B => [0x48]
  | .ldC_C => [0x49]
  | .ldC_D => [0x4A]
  | .ldC_E => [0x4B]
  | .ldC_H => [0x4C]
  | .ldC_L => [0x4D]
  | .ldC_AtHL => [0x4E]
  | .ldC_A => [0x4F]
  | .ldD_B => [0x50]
  | .ldD_C => [0x51]
  | .ldD_D => [0x52]
  | .ldD_E => [0x53]
  | .ldD_H => [0x54]
  | .ldD_L => [0x55]
  | .ldD_AtHL => [0x56]
  | .ldD_A => [0x57]
  | .ldE_B => [0x58]
  | .ldE_C => [0x59]
  | .ldE_D => [0x5A]
  | .ldE_E => [0x5B]
  | .ldE_H => [0x5C]
  | .ldE_L => [0x5D]
  | .ldE_AtHL => [0x5E]
  | .ldE_A => [0x5F]
  | .ldH_B => [0x60]
  | .ldH_C => [0x61]
  | .ldH_D => [0x62]
  | .ldH_E => [0x63]
  | .ldH_H => [0x64]
  | .ldH_L => [0x65]
  | .ldH_AtHL => [0x66]
  | .ldH_A => [0x67]
  | .ldL_B => [0x68]
  | .ldL_C => [0x69]
  | .ldL_D => [0x6A]
  | .ldL_E => [0x6B]
  | .ldL_H => [0x6C]
  | .ldL_L => [0x6D]
  | .ldL_AtHL => [0x6E]
  | .ldL_A => [0x6F]
  | .ldAtHL_B => [0x70]
  | .ldAtHL_C => [0x71]
  | .ldAtHL_D => [0x72]
  | .ldAtHL_E => [0x73]
  | .ldAtHL_H => [0x74]
  | .ldAtHL_L => [0x75]
  | .halt => [0x76]
  | .ldAtHL_A => [0x77]
  | .ldA_B => [0x78]
  | .ldA_C => [0x79]
  | .ldA_D => [0x7A]
  | .ldA_E => [0x7B]
  | .ldA_H => [0x7C]
  | .ldA_L => [0x7D]
  | .ldA_AtHL => [0x7E]
  | .ldA_A => [0x7F]
  | .addA_B => [0x80]
  | .addA_C => [0x81]
  | .addA_D => [0x82]
  | .addA_E => [0x83]
  | .addA_H => [0x84]
  | .addA_L => [0x85]
  | .addA_AtHL => [0x86]
  | .addA_A => [0x87]
  | .adcA_B => [0x88]
  | .adcA_C => [0x89]
  | .adcA_D => [0x8A]
  | .adcA_E => [0x8B]
  | .adcA_H => [0x8C]
  | .adcA_L => [0x8D]
  | .adcA_AtHL => [0x8E]
  | .adcA_A => [0x8F]
  | .subB => [0x90]
  | .subC => [0x91]
  | .subD => [0x92]
  | .subE => [0x93]
  | .subH => [0x94]
  | .subL => [0x95]
  | .subAtHL => [0x96]
  | .subA => [0x97]
  | .sbcA_B => [0x98]
  | .sbcA_C => [0x99]
  | .sbcA_D => [0x9A]
  | .sbcA_E => [0x9B]
  | .sbcA_H => [0x9C]
  | .sbcA_L => [0x9D]
  | .sbcA_AtHL => [0x9E]
  | .sbcA_A => [0x9F]
  | .andB => [0xA0]
  | .andC => [0xA1]
  | .andD => [0xA2]
  | .andE => [0xA3]
  | .andH => [0xA4]
  | .andL => [0xA5]
  | .andAtHL => [0xA6]
  | .andA => [0xA7]
  | .xorB => [0xA8]
  | .xorC => [0xA9]
  | .xorD => [0xAA]
  | .xorE => [0xAB]
  | .xorH => [0xAC]
  | .xorL => [0xAD]
  | .xorAtHL => [0xAE]
  | .xorA => [0xAF]
  | .orB => [0xB0]
  | .orC => [0xB1]
  | .orD => [0xB2]
  | .orE => [0xB3]
  | .orH => [0xB4]
  | .orL => [0xB5]
  | .orAtHL => [0xB6]
  | .orA => [0xB7]
  | .cpB => [0xB8]
  | .cpC => [0xB9]
  | .cpD => [0xBA]
  | .cpE => [0xBB]
  | .cpH => [0xBC]
  | .cpL => [0xBD]
  | .cpAtHL => [0xBE]
  | .cpA => [0xBF]
  | .retNZ => [0xC0]
  | .popBC => [0xC1]
  | .jpNZ_NN nn => [0xC2, loByte nn, hiByte nn]
  | .jpNN nn => [0xC3, loByte nn, hiByte nn]
  | .callNZ_NN nn => [0xC4, loByte nn, hiByte nn]
  | .pushBC => [0xC5]
  | .addA_N n => [0xC6, n]
  | .rst00 => [0xC7]
  | .retZ => [0xC8]
  | .ret => [0xC9]
  | .jpZ_NN nn => [0xCA, loByte nn, hiByte nn]
  | .cb op2 => [0xCB, op2]
  | .callZ_NN nn => [0xCC, loByte nn, hiByte nn]
  | .callNN nn => [0xCD, loByte nn, hiByte nn]
  | .adcA_N n => [0xCE, n]
  | .rst08 => [0xCF]
  | .retNC => [0xD0]
  | .popDE => [0xD1]
  | .jpNC_NN nn => [0xD2, loByte nn, hiByte nn]
  | .illegal op => [op]
  | .callNC_NN nn => [0xD4, loByte nn, hiByte nn]
  | .pushDE => [0xD5]
  | .subN n => [0xD6, n]
  | .rst10 => [0xD7]
  | .retC => [0xD8]
  | .reti => [0xD9]
  | .jpC_NN nn => [0xDA, loByte nn, hiByte nn]
  | .callC_NN nn => [0xDC, loByte nn, hiByte nn]
  | .sbcA_N n => [0xDE, n]
  | .rst18 => [0xDF]
  | .ldhAtN_A n => [0xE0, n]
  | .popHL => [0xE1]
  | .ldAtC_A => [0xE2]
  | .pushHL => [0xE5]
  | .andN n => [0xE6, n]
  | .rst20 => [0xE7]
  | .addSP_E e => [0xE8, e]
  | .jpHL => [0xE9]
  | .ldAtNN_A nn => [0xEA, loByte nn, hiByte nn]
  | .xorN n => [0xEE, n]
  | .rst28 => [0xEF]
  | .ldhA_AtN n => [0xF0, n]
  | .popAF => [0xF1]
  | .ldA_AtC => [0xF2]
  | .di => [0xF3]
  | .pushAF => [0xF5]
  | .orN n => [0xF6, n]
  | .rst30 => [0xF7]
  | .ldHL_SPE e => [0xF8, e]
  | .ldSP_HL => [0xF9]
  | .ldA_AtNN nn => [0xFA, loByte nn, hiByte nn]
  | .ei => [0xFB]
  | .cpN n => [0xFE, n]
  | .rst38 => [0xFF]
  | .rlcB => [0xCB, 0x00]
  | .rlcC => [0xCB, 0x01]
  | .rlcD => [0xCB, 0x02]
  | .rlcE => [0xCB, 0x03]
  | .rlcH => [0xCB, 0x04]
  | .rlcL => [0xCB, 0x05]
  | .rlcAtHL => [0xCB, 0x06]
  | .rlcA => [0xCB, 0x07]
  | .rrcB => [0xCB, 0x08]
  | .rrcC => [0xCB, 0x09]
  | .rrcD => [0xCB, 0x0A]
  | .rrcE => [0xCB, 0x0B]
  | .rrcH => [0xCB, 0x0C]
  | .rrcL => [0xCB, 0x0D]
  | .rrcAtHL => [0xCB, 0x0E]
  | .rrcA => [0xCB, 0x0F]
  | .rlB => [0xCB, 0x10]
  | .rlC => [0xCB, 0x11]
  | .rlD => [0xCB, 0x12]
  | .rlE => [0xCB, 0x13]
  | .rlH => [0xCB, 0x14]
  | .rlL => [0xCB, 0x15]
  | .rlAtHL => [0xCB, 0x16]
  | .rlA => [0xCB, 0x17]
  | .rrB => [0xCB, 0x18]
  | .rrC => [0xCB, 0x19]
  | .rrD => [0xCB, 0x1A]
  | .rrE => [0xCB, 0x1B]
  | .rrH => [0xCB, 0x1C]
  | .rrL => [0xCB, 0x1D]
  | .rrAtHL => [0xCB, 0x1E]
  | .rrA => [0xCB, 0x1F]
  | .slaB => [0xCB, 0x20]
  | .slaC => [0xCB, 0x21]
  | .slaD => [0xCB, 0x22]
  | .slaE => [0xCB, 0x23]
  | .slaH => [0xCB, 0x24]
  | .slaL => [0xCB, 0x25]
  | .slaAtHL => [0xCB, 0x26]
  | .slaA => [0xCB, 0x27]
  | .sraB => [0xCB, 0x28]
  | .sraC => [0xCB, 0x29]
  | .sraD => [0xCB, 0x2A]
  | .sraE => [0xCB, 0x2B]
  | .sraH => [0xCB, 0x2C]
  | .sraL => [0xCB, 0x2D]
  | .sraAtHL => [0xCB, 0x2E]
  | .sraA => [0xCB, 0x2F]
  | .swapB => [0xCB, 0x30]
  | .swapC => [0xCB, 0x31]
  | .swapD => [0xCB, 0x32]
  | .swapE => [0xCB, 0x33]
  | .swapH => [0xCB, 0x34]
  | .swapL => [0xCB, 0x35]
  | .swapAtHL => [0xCB, 0x36]
  | .swapA => [0xCB, 0x37]
  | .srlB => [0xCB, 0x38]
  | .srlC => [0xCB, 0x39]
  | .srlD => [0xCB, 0x3A]
  | .srlE => [0xCB, 0x3B]
  | .srlH => [0xCB, 0x3C]
  | .srlL => [0xCB, 0x3D]
  | .srlAtHL => [0xCB, 0x3E]
  | .srlA => [0xCB, 0x3F]
  | .bit0_B => [0xCB, 0x40]
  | .bit0_C => [0xCB, 0x41]
  | .bit0_D => [0xCB, 0x42]
  | .bit0_E => [0xCB, 0x43]
  | .bit0_H => [0xCB, 0x44]
  | .bit0_L => [0xCB, 0x45]
  | .bit0_AtHL => [0xCB, 0x46]
  | .bit0_A => [0xCB, 0x47]
  | .bit1_B => [0xCB, 0x48]
  | .bit1_C => [0xCB, 0x49]
  | .bit1_D => [0xCB, 0x4A]
  | .bit1_E => [0xCB, 0x4B]
  | .bit1_H => [0xCB, 0x4C]
  | .bit1_L => [0xCB, 0x4D]
  | .bit1_AtHL => [0xCB, 0x4E]
  | .bit1_A => [0xCB, 0x4F]
  | .bit2_B => [0xCB, 0x50]
  | .bit2_C => [0xCB, 0x51]
  | .bit2_D => [0xCB, 0x52]
  | .bit2_E => [0xCB, 0x53]
  | .bit2_H => [0xCB, 0x54]
  | .bit2_L => [0xCB, 0x55]
  | .bit2_AtHL => [0xCB, 0x56]
  | .bit2_A => [0xCB, 0x57]
  | .bit3_B => [0xCB, 0x58]
  | .bit3_C => [0xCB, 0x59]
  | .bit3_D => [0xCB, 0x5A]
  | .bit3_E => [0xCB, 0x5B]
  | .bit3_H => [0xCB, 0x5C]
  | .bit3_L => [0xCB, 0x5D]
  | .bit3_AtHL => [0xCB, 0x5E]
  | .bit3_A => [0xCB, 0x5F]
  | .bit4_B => [0xCB, 0x60]
  | .bit4_C => [0xCB, 0x61]
  | .bit4_D => [0xCB, 0x62]
  | .bit4_E => [0xCB, 0x63]
  | .bit4_H => [0xCB, 0x64]
  | .bit4_L => [0xCB, 0x65]
  | .bit4_AtHL => [0xCB, 0x66]
  | .bit4_A => [0xCB, 0x67]
  | .bit5_B => [0xCB, 0x68]
  | .bit5_C => [0xCB, 0x69]
  | .bit5_D => [0xCB, 0x6A]
  | .bit5_E => [0xCB, 0x6B]
  | .bit5_H => [0xCB, 0x6C]
  | .bit5_L => [0xCB, 0x6D]
  | .bit5_AtHL => [0xCB, 0x6E]
  | .bit5_A => [0xCB, 0x6F]
  | .bit6_B => [0xCB, 0x70]
  | .bit6_C => [0xCB, 0x71]
  | .bit6_D => [0xCB, 0x72]
  | .bit6_E => [0xCB, 0x73]
  | .bit6_H => [0xCB, 0x74]
  | .bit6_L => [0xCB, 0x75]
  | .bit6_AtHL => [0xCB, 0x76]
  | .bit6_A => [0xCB, 0x77]
  | .bit7_B => [0xCB, 0x78]
  | .bit7_C => [0xCB, 0x79]
  | .bit7_D => [0xCB, 0x7A]
  | .bit7_E => [0xCB, 0x7B]
  | .bit7_H => [0xCB, 0x7C]
  | .bit7_L => [0xCB, 0x7D]
  | .bit7_AtHL => [0xCB, 0x7E]
  | .bit7_A => [0xCB, 0x7F]
  | .res0_B => [0xCB, 0x80]
  | .res0_C => [0xCB, 0x81]
  | .res0_D => [0xCB, 0x82]
  | .res0_E => [0xCB, 0x83]
  | .res0_H => [0xCB, 0x84]
  | .res0_L => [0xCB, 0x85]
  | .res0_AtHL => [0xCB, 0x86]
  | .res0_A => [0xCB, 0x87]
  | .res1_B => [0xCB, 0x88]
  | .res1_C => [0xCB, 0x89]
  | .res1_D => [0xCB, 0x8A]
  | .res1_E => [0xCB, 0x8B]
  | .res1_H => [0xCB, 0x8C]
  | .res1_L => [0xCB, 0x8D]
  | .res1_AtHL => [0xCB, 0x8E]
  | .res1_A => [0xCB, 0x8F]
  | .res2_B => [0xCB, 0x90]
  | .res2_C => [0xCB, 0x91]
  | .res2_D => [0xCB, 0x92]
  | .res2_E => [0xCB, 0x93]
  | .res2_H => [0xCB, 0x94]
  | .res2_L => [0xCB, 0x95]
  | .res2_AtHL => [0xCB, 0x96]
  | .res2_A => [0xCB, 0x97]
  | .res3_B => [0xCB, 0x98]
  | .res3_C => [0xCB, 0x99]
  | .res3_D => [0xCB, 0x9A]
  | .res3_E => [0xCB, 0x9B]
  | .res3_H => [0xCB, 0x9C]
  | .res3_L => [0xCB, 0x9D]
  | .res3_AtHL => [0xCB, 0x9E]
  | .res3_A => [0xCB, 0x9F]
  | .res4_B => [0xCB, 0xA0]
  | .res4_C => [0xCB, 0xA1]
  | .res4_D => [0xCB, 0xA2]
  | .res4_E => [0xCB, 0xA3]
  | .res4_H => [0xCB, 0xA4]
  | .res4_L => [0xCB, 0xA5]
  | .res4_AtHL => [0xCB, 0xA6]
  | .res4_A => [0xCB, 0xA7]
  | .res5_B => [0xCB, 0xA8]
  | .res5_C => [0xCB, 0xA9]
  | .res5_D => [0xCB, 0xAA]
  | .res5_E => [0xCB, 0xAB]
  | .res5_H => [0xCB, 0xAC]
  | .res5_L => [0xCB, 0xAD]
  | .res5_AtHL => [0xCB, 0xAE]
  | .res5_A => [0xCB, 0xAF]
  | .res6_B => [0xCB, 0xB0]
  | .res6_C => [0xCB, 0xB1]
  | .res6_D => [0xCB, 0xB2]
  | .res6_E => [0xCB, 0xB3]
  | .res6_H => [0xCB, 0xB4]
  | .res6_L => [0xCB, 0xB5]
  | .res6_AtHL => [0xCB, 0xB6]
  | .res6_A => [0xCB, 0xB7]
  | .res7_B => [0xCB, 0xB8]
  | .res7_C => [0xCB, 0xB9]
  | .res7_D => [0xCB, 0xBA]
  | .res7_E => [0xCB, 0xBB]
  | .res7_H => [0xCB, 0xBC]
  | .res7_L => [0xCB, 0xBD]
  | .res7_AtHL => [0xCB, 0xBE]
  | .res7_A => [0xCB, 0xBF]
  | .set0_B => [0xCB, 0xC0]
  | .set0_C => [0xCB, 0xC1]
  | .set0_D => [0xCB, 0xC2]
  | .set0_E => [0xCB, 0xC3]
  | .set0_H => [0xCB, 0xC4]
  | .set0_L => [0xCB, 0xC5]
  | .set0_AtHL => [0xCB, 0xC6]
  | .set0_A => [0xCB, 0xC7]
  | .set1_B => [0xCB, 0xC8]
  | .set1_C => [0xCB, 0xC9]
  | .set1_D => [0xCB, 0xCA]
  | .set1_E => [0xCB, 0xCB]
  | .set1_H => [0xCB, 0xCC]
  | .set1_L => [0xCB, 0xCD]
  | .set1_AtHL => [0xCB, 0xCE]
  | .set1_A => [0xCB, 0xCF]
  | .set2_B => [0xCB, 0xD0]
  | .set2_C => [0xCB, 0xD1]
  | .set2_D => [0xCB, 0xD2]
  | .set2_E => [0xCB, 0xD3]
  | .set2_H => [0xCB, 0xD4]
  | .set2_L => [0xCB, 0xD5]
  | .set2_AtHL => [0xCB, 0xD6]
  | .set2_A => [0xCB, 0xD7]
  | .set3_B => [0xCB, 0xD8]
  | .set3_C => [0xCB, 0xD9]
  | .set3_D => [0xCB, 0xDA]
  | .set3_E => [0xCB, 0xDB]
  | .set3_H => [0xCB, 0xDC]
  | .set3_L => [0xCB, 0xDD]
  | .set3_AtHL => [0xCB, 0xDE]
  | .set3_A => [0xCB, 0xDF]
  | .set4_B => [0xCB, 0xE0]
  | .set4_C => [0xCB, 0xE1]
  | .set4_D => [0xCB, 0xE2]
  | .set4_E => [0xCB, 0xE3]
  | .set4_H => [0xCB, 0xE4]
  | .set4_L => [0xCB, 0xE5]
  | .set4_AtHL => [0xCB, 0xE6]
  | .set4_A => [0xCB, 0xE7]
  | .set5_B => [0xCB, 0xE8]
  | .set5_C => [0xCB, 0xE9]
  | .set5_D => [0xCB, 0xEA]
  | .set5_E => [0xCB, 0xEB]
  | .set5_H => [0xCB, 0xEC]
  | .set5_L => [0xCB, 0xED]
  | .set5_AtHL => [0xCB, 0xEE]
  | .set5_A => [0xCB, 0xEF]
  | .set6_B => [0xCB, 0xF0]
  | .set6_C => [0xCB, 0xF1]
  | .set6_D => [0xCB, 0xF2]
  | .set6_E => [0xCB, 0xF3]
  | .set6_H => [0xCB, 0xF4]
  | .set6_L => [0xCB, 0xF5]
  | .set6_AtHL => [0xCB, 0xF6]
  | .set6_A => [0xCB, 0xF7]
  | .set7_B => [0xCB, 0xF8]
  | .set7_C => [0xCB, 0xF9]
  | .set7_D => [0xCB, 0xFA]
  | .set7_E => [0xCB, 0xFB]
  | .set7_H => [0xCB, 0xFC]
  | .set7_L => [0xCB, 0xFD]
  | .set7_AtHL => [0xCB, 0xFE]
  | .set7_A => [0xCB, 0xFF]

end Sys2Proof
end

