-- ==== Sys2Proof/Machine/System.lean ====
section
/-!
DEFINITION. The system instructions, the 0xCB prefix byte and the illegal bytes (`44_system.md`, R220
to R227).
-/

namespace Sys2Proof.Machine

/-! ### Shared operations -/

/-- `NOP` (R220). -/
def noOperation (s : State) : Result :=
  .next (s.setCycles 4)

/-- `DI` (R221, R282): IME is Unset at once, from any state. -/
def disableInterrupts (s : State) : Result :=
  .next ((s.setIme .unset).setCycles 4)

/-- What EI does to IME (R222, R283), by `EI_FROM_SET`. A pending state is left as it is. -/
def Ime.request (p : EiFromSet) : Ime → Ime
  | .unset => .pendingNewInstruction
  | .pendingNewInstruction => .pendingNewInstruction
  | .pendingInstructionCompletion => .pendingInstructionCompletion
  | .set =>
    match p with
    | .restart => .pendingNewInstruction
    | .noEffect => .set

/-- `EI` (R222). -/
def requestInterrupts (s : State) : Result :=
  .next ((s.setIme (s.ime.request s.cfg.eiFromSet)).setCycles 4)

/-- `HALT` (R224): with IME Set the core is halted; otherwise by `HALT_POLICY`, a fault, or under sm83
the duplicate fetch when a request is pending and enabled, and the halted state when none is
(R305, C7). -/
def haltCore (s : State) : Result :=
  match s.ime with
  | .set => .next ((s.setHalted true).setCycles 4)
  | .unset | .pendingNewInstruction | .pendingInstructionCompletion =>
    match s.cfg.haltPolicy with
    | .fault => .fault .haltImeNotSet
    | .sm83 =>
      if s.firstPending.isSome then .next ((s.setHaltBug true).setCycles 4)
      else .next ((s.setHalted true).setCycles 4)

/-- `STOP` (R225): the ignored second byte has been fetched; IME, IE and IF are not consulted. -/
def stopCore (_pad : Byte) (s : State) : Result :=
  .next ((s.setStopped true).setCycles 4)

/-- The prefix byte 0xCB with the second byte `op2` (R226): "decode op2 in the extended table and run
that instruction's rule", by the fields of op2 (R107). -/
def runExtended (op2 : Byte) (s : State) : Result :=
  match fieldX op2 with
  | 0 => rotOperand (RotOp.ofCode (fieldY op2)) (Operand8.ofCode (fieldZ op2)) s
  | 1 => testBit (fieldY op2) (Operand8.ofCode (fieldZ op2)) s
  | 2 => clearBit (fieldY op2) (Operand8.ofCode (fieldZ op2)) s
  | _ => setBit (fieldY op2) (Operand8.ofCode (fieldZ op2)) s

/-- An illegal first byte (R227): always the fault IllegalOpcode. -/
def illegalFirstByte (_op : Byte) (_s : State) : Result :=
  .fault .illegalOpcode

/-! ### One meaning per row of the opcode table -/

/-- `NOP` (R220). -/
def execNop (s : State) : Result := noOperation s

/-- `STOP` (R225). -/
def execStop (pad : Byte) (s : State) : Result := stopCore pad s

/-- `HALT` (R224). -/
def execHalt (s : State) : Result := haltCore s

/-- `CB` (R226). -/
def execCb (op2 : Byte) (s : State) : Result := runExtended op2 s

/-- `ILLEGAL` (R227). -/
def execIllegal (op : Byte) (s : State) : Result := illegalFirstByte op s

/-- `DI` (R221). -/
def execDi (s : State) : Result := disableInterrupts s

/-- `EI` (R222). -/
def execEi (s : State) : Result := requestInterrupts s

end Sys2Proof.Machine
end

