-- ==== Sys2Proof/Machine/Fetch.lean ====
section
/-!
DEFINITION. Fetching one instruction (R92), and placing one where the next fetch reads it.
-/

namespace Sys2Proof.Machine

/-- The fetch and decode sequence (R92): the first byte, then as many more as its length asks for,
each by `Fetch8`. PC is past all of them before any part of the operation runs. -/
def State.fetchInstr (s : State) : Instr × State :=
  let (b0, s1) := s.fetch8
  match instrLength b0 with
  | 1 => (decodeBytes b0 0 0, s1)
  | 2 =>
    let (b1, s2) := s1.fetch8
    (decodeBytes b0 b1 0, s2)
  | _ =>
    let (b1, s2) := s1.fetch8
    let (b2, s3) := s2.fetch8
    (decodeBytes b0 b1 b2, s3)

/-- Whether an address selects a byte of storage, which keeps what is written to it. -/
def keepsBytes (a : Word) : Bool :=
  match target a with
  | .storage _ => true
  | _ => false

/-- Where an instruction of up to three bytes can be placed for the next fetch: at PC if the three
addresses there keep what is written, else at the reset vector 0x0000. -/
def State.placeFor (s : State) : Word :=
  if keepsBytes s.pc && keepsBytes (incWord s.pc) && keepsBytes (incWord (incWord s.pc)) then s.pc
  else 0x0000

/-- The state with three bytes stored at the place for the next fetch, PC there, and the core neither
halted nor stopped nor under haltBug, so that the next step fetches exactly them. -/
def State.placeBytes (s : State) (b0 b1 b2 : Byte) : State :=
  let at0 := s.placeFor
  let s := s.memWrite at0 b0
  let s := s.memWrite (incWord at0) b1
  let s := s.memWrite (incWord (incWord at0)) b2
  (((s.setPc at0).setHalted false).setStopped false).setHaltBug false

end Sys2Proof.Machine
end

