-- ==== Sys2Proof/Machine/Step.lean ====
section
/-!
DEFINITION. One step of the machine (R280): run, host, service. The *Held* outcome of R13 is the next
state of a stopped core that no host input wakes (log 6).
-/

namespace Sys2Proof.Machine

/-- Phase 1 for a running core (R280): one instruction, its epilogue, its cycles ticked; then phases 2
and 3. A fault changes no state and has no successor. -/
def runInstr (s : State) : Host.Outcome State Fault Refusal :=
  match exec s.fetchInstr.1 s.fetchInstr.2 with
  | .next t => .next ((t.epilogue.tick t.cycles).finishStep)
  | .fault r => .fault r
  | .refused r => .refused r

/-- The machine step (R280). Stopped: nothing executes and nothing ticks. Halted: an idle tick of 4
cycles (R304). -/
def step (s : State) : Host.Outcome State Fault Refusal :=
  if s.stopped then .next s.finishStep
  else if s.halted then .next (s.tick 4).finishStep
  else runInstr s

/-- The state in which the very next step fetches and runs the instruction whose bits are `w` (those
at and above `nbits` zero), bit 0 being the least significant bit of its first byte. It stands for
the program's being part of the memory contents the machine is given (log 2). -/
def State.withFetchWord (s : State) (nbits w : Nat) : State :=
  let v := w % 2 ^ nbits
  s.placeBytes (BitVec.ofNat 8 v) (BitVec.ofNat 8 (v / 256)) (BitVec.ofNat 8 (v / 65536))

end Sys2Proof.Machine
end

