-- ==== Sys2Proof/Safety.lean ====
section
/-!
DEFINITION. The terms that claims are stated in: the invariant of the state between two steps, and,
read off the spec's tables and not off the meanings, what each instruction may write (R26 flags, data
registers, stored addresses, SP, PC, IME) and what it costs (R347, R348).
-/

namespace Sys2Proof

/-- What an instruction does: its form, and for the prefix byte the form that its second byte selects
(R226). -/
def Instr.effect (i : Instr) : Form :=
  match i.form with
  | .cbPrefix op2 => decodeCb op2
  | f => f

/-! ### Operand codes (R96 to R101) -/

/-- The code of a register in `r8[c]` (R96). -/
def Reg8.code : Reg8 → Nat
  | .b => 0
  | .c => 1
  | .d => 2
  | .e => 3
  | .h => 4
  | .l => 5
  | .a => 7

/-- The code of an 8-bit operand (R96). -/
def Operand8.code : Operand8 → Nat
  | .reg r => r.code
  | .atHL => 6

/-- The code of a pair in `r16[c]` (R97). -/
def Pair16.code : Pair16 → Nat
  | .bc => 0
  | .de => 1
  | .hl => 2
  | .sp => 3

/-- The code of a pair in `r16stk[c]` (R98). -/
def PairStk.code : PairStk → Nat
  | .bc => 0
  | .de => 1
  | .hl => 2
  | .af => 3

/-- The code of a condition (R99). -/
def Cond.code : Cond → Nat
  | .nz => 0
  | .z => 1
  | .nc => 2
  | .c => 3

/-- The code of an ALU operation (R100). -/
def AluOp.code : AluOp → Nat
  | .add => 0
  | .adc => 1
  | .sub => 2
  | .sbc => 3
  | .and => 4
  | .xor => 5
  | .or => 6
  | .cp => 7

/-- The code of a rotate or shift (R101). -/
def RotOp.code : RotOp → Nat
  | .rlc => 0
  | .rrc => 1
  | .rl => 2
  | .rr => 3
  | .sla => 4
  | .sra => 5
  | .swap => 6
  | .srl => 7

/-- The code of an indirect address (R102). -/
def Indirect.code : Indirect → Nat
  | .bc => 0
  | .de => 1
  | .hli => 2
  | .hld => 3

/-! ### Flags written (R26) -/

/-- An entry of the table of R26. -/
inductive FlagWrite where
  | kept
  | zero
  | one
  | computed
  deriving DecidableEq, Repr

/-- What the entry says of a flag's value before and after. -/
def FlagWrite.allows (w : FlagWrite) (before after : Bool) : Prop :=
  match w with
  | .kept => after = before
  | .zero => after = false
  | .one => after = true
  | .computed => True

/-- A row of the table of R26. -/
structure FlagRow where
  z : FlagWrite
  n : FlagWrite
  h : FlagWrite
  c : FlagWrite
  deriving DecidableEq, Repr

/-- The row of an 8-bit ALU operation. -/
def AluOp.flagRow : AluOp → FlagRow
  | .add | .adc => ⟨.computed, .zero, .computed, .computed⟩
  | .sub | .sbc | .cp => ⟨.computed, .one, .computed, .computed⟩
  | .and => ⟨.computed, .zero, .one, .zero⟩
  | .xor | .or => ⟨.computed, .zero, .zero, .zero⟩

/-- The table of R26, last sentence included: what is not in the table writes no flag. -/
def Form.flagRow : Form → FlagRow
  | .alu k _ | .aluN k _ => k.flagRow
  | .inc8 _ => ⟨.computed, .zero, .computed, .kept⟩
  | .dec8 _ => ⟨.computed, .one, .computed, .kept⟩
  | .daa => ⟨.computed, .kept, .zero, .computed⟩
  | .cpl => ⟨.kept, .one, .one, .kept⟩
  | .scf => ⟨.kept, .zero, .zero, .one⟩
  | .ccf => ⟨.kept, .zero, .zero, .computed⟩
  | .addHL _ | .addSP _ => ⟨.computed, .zero, .computed, .computed⟩
  | .ldHLSP _ => ⟨.zero, .zero, .computed, .computed⟩
  | .rlca | .rla | .rrca | .rra => ⟨.zero, .zero, .zero, .computed⟩
  | .rot .swap _ => ⟨.computed, .zero, .zero, .zero⟩
  | .rot _ _ => ⟨.computed, .zero, .zero, .computed⟩
  | .bit _ _ => ⟨.computed, .zero, .one, .kept⟩
  | .pop .af => ⟨.computed, .computed, .computed, .computed⟩
  | .pop _ | .nop | .stop _ | .halt | .di | .ei | .ldRR _ _ | .ldRM _ | .ldMR _ | .ldRN _ _
  | .ldMN _ | .ldAInd _ | .ldIndA _ | .ldhNA _ | .ldhAN _ | .ldCA | .ldAC | .ldNNA _ | .ldANN _
  | .ldR16 _ _ | .ldNNSP _ | .ldSPHL | .push _ | .incR16 _ | .decR16 _ | .res _ _ | .set _ _
  | .jp _ | .jpCc _ _ | .jpHL | .jr _ | .jrCc _ _ | .call _ | .callCc _ _ | .ret | .retCc _
  | .reti | .rst _ | .cbPrefix _ | .illegal _ => ⟨.kept, .kept, .kept, .kept⟩

/-! ### Registers written -/

/-- The data registers of an 8-bit operand. -/
def Operand8.regs : Operand8 → List Reg8
  | .reg r => [r]
  | .atHL => []

/-- The data registers of a pair; SP has none. -/
def Pair16.regs : Pair16 → List Reg8
  | .bc => [.b, .c]
  | .de => [.d, .e]
  | .hl => [.h, .l]
  | .sp => []

/-- The data registers of a stack pair; F is no data register. -/
def PairStk.regs : PairStk → List Reg8
  | .bc => [.b, .c]
  | .de => [.d, .e]
  | .hl => [.h, .l]
  | .af => [.a]

/-- The data registers an indirect address updates (R102). -/
def Indirect.regs : Indirect → List Reg8
  | .bc | .de => []
  | .hli | .hld => [.h, .l]

/-- The data registers an instruction may write: its destination, and HL where its addressing updates
it. -/
def Form.destRegs : Form → List Reg8
  | .ldRR dst _ | .ldRM dst | .ldRN dst _ => [dst]
  | .ldAInd i => .a :: i.regs
  | .ldIndA i => i.regs
  | .ldhAN _ | .ldAC | .ldANN _ => [.a]
  | .ldR16 p _ | .incR16 p | .decR16 p => p.regs
  | .ldHLSP _ | .addHL _ => [.h, .l]
  | .pop p => p.regs
  | .alu .cp _ | .aluN .cp _ => []
  | .alu _ _ | .aluN _ _ | .daa | .cpl | .rlca | .rla | .rrca | .rra => [.a]
  | .inc8 o | .dec8 o | .rot _ o | .res _ o | .set _ o => o.regs
  | .nop | .stop _ | .halt | .di | .ei | .ldMR _ | .ldMN _ | .ldhNA _ | .ldCA | .ldNNA _
  | .ldNNSP _ | .ldSPHL | .push _ | .scf | .ccf | .addSP _ | .bit _ _ | .jp _ | .jpCc _ _ | .jpHL
  | .jr _ | .jrCc _ _ | .call _ | .callCc _ _ | .ret | .retCc _ | .reti | .rst _ | .cbPrefix _
  | .illegal _ => []

/-- Whether an instruction may write SP (R24). -/
def Form.writesSp : Form → Bool
  | .ldR16 .sp _ | .incR16 .sp | .decR16 .sp => true
  | .ldSPHL | .addSP _ | .push _ | .pop _ | .call _ | .callCc _ _ | .ret | .retCc _ | .reti
  | .rst _ => true
  | .ldR16 _ _ | .incR16 _ | .decR16 _ | .nop | .stop _ | .halt | .di | .ei | .ldRR _ _ | .ldRM _
  | .ldMR _ | .ldRN _ _ | .ldMN _ | .ldAInd _ | .ldIndA _ | .ldhNA _ | .ldhAN _ | .ldCA | .ldAC
  | .ldNNA _ | .ldANN _ | .ldNNSP _ | .ldHLSP _ | .alu _ _ | .aluN _ _ | .inc8 _ | .dec8 _ | .daa
  | .cpl | .scf | .ccf | .addHL _ | .rlca | .rla | .rrca | .rra | .rot _ _ | .bit _ _ | .res _ _
  | .set _ _ | .jp _ | .jpCc _ _ | .jpHL | .jr _ | .jrCc _ _ | .cbPrefix _ | .illegal _ => false

/-- The control-transfer instructions, the only ones that write PC (R25, `43_control.md`). -/
def Form.transfers : Form → Bool
  | .jp _ | .jpCc _ _ | .jpHL | .jr _ | .jrCc _ _ | .call _ | .callCc _ _ | .ret | .retCc _ | .reti
  | .rst _ => true
  | .nop | .stop _ | .halt | .di | .ei | .ldRR _ _ | .ldRM _ | .ldMR _ | .ldRN _ _ | .ldMN _
  | .ldAInd _ | .ldIndA _ | .ldhNA _ | .ldhAN _ | .ldCA | .ldAC | .ldNNA _ | .ldANN _ | .ldR16 _ _
  | .ldNNSP _ | .ldSPHL | .ldHLSP _ | .push _ | .pop _ | .alu _ _ | .aluN _ _ | .inc8 _ | .dec8 _
  | .daa | .cpl | .scf | .ccf | .addHL _ | .addSP _ | .incR16 _ | .decR16 _ | .rlca | .rla | .rrca
  | .rra | .rot _ _ | .bit _ _ | .res _ _ | .set _ _ | .cbPrefix _ | .illegal _ => false

end Sys2Proof

namespace Sys2Proof.Machine

/-! ### Addresses -/

/-- Two addresses select the same byte of storage or the same device (R56, R76): one aliases the
other, or they are equal, or both select nothing (the unusable region, the zero stubs). -/
abbrev SameByte (a b : Word) : Prop := target a = target b

/-- The two addresses `Push16` stores to (R71). -/
def State.pushedAt (s : State) : List Word := [decWord s.sp, decWord (decWord s.sp)]

/-- The addresses an instruction stores to, computed from the state it runs in with the expressions
of its rule. -/
def State.storedAt (s : State) : Form → List Word
  | .ldMR _ | .ldMN _ => [s.hl]
  | .ldIndA i => [s.indirectAddress i]
  | .ldhNA n => [highPage n]
  | .ldCA => [highPage (s.getReg .c)]
  | .ldNNA nn => [nn]
  | .ldNNSP nn => [nn, incWord nn]
  | .inc8 .atHL | .dec8 .atHL | .rot _ .atHL | .res _ .atHL | .set _ .atHL => [s.hl]
  | .push _ | .call _ | .rst _ => s.pushedAt
  | .callCc cc _ => if s.holds cc then s.pushedAt else []
  | .inc8 (.reg _) | .dec8 (.reg _) | .rot _ (.reg _) | .res _ (.reg _) | .set _ (.reg _) => []
  | .nop | .stop _ | .halt | .di | .ei | .ldRR _ _ | .ldRM _ | .ldRN _ _ | .ldAInd _ | .ldhAN _
  | .ldAC | .ldANN _ | .ldR16 _ _ | .ldSPHL | .ldHLSP _ | .pop _ | .alu _ _ | .aluN _ _ | .daa
  | .cpl | .scf | .ccf | .addHL _ | .addSP _ | .incR16 _ | .decR16 _ | .rlca | .rla | .rrca | .rra
  | .bit _ _ | .jp _ | .jpCc _ _ | .jpHL | .jr _ | .jrCc _ _ | .ret | .retCc _ | .reti
  | .cbPrefix _ | .illegal _ => []

/-! ### IME and cost -/

/-- The instruction columns of the table of R287: what an instruction itself writes to IME. -/
def imeWrite (p : EiFromSet) : Form → Ime → Ime
  | .di, _ => .unset
  | .reti, _ => .set
  | .ei, .unset => .pendingNewInstruction
  | .ei, .set =>
    match p with
    | .restart => .pendingNewInstruction
    | .noEffect => .set
  | _, v => v

/-- The cycle table of R347 with the conditional costs of R348. -/
def State.cost (s : State) : Form → Nat
  | .nop | .ldRR _ _ | .rlca | .rrca | .rla | .rra | .daa | .cpl | .scf | .ccf | .jpHL | .di | .ei
  | .halt | .stop _ => 4
  | .alu _ (.reg _) | .inc8 (.reg _) | .dec8 (.reg _) => 4
  | .ldRN _ _ | .ldRM _ | .ldMR _ | .ldAInd _ | .ldIndA _ | .ldCA | .ldAC | .ldSPHL | .aluN _ _
  | .incR16 _ | .decR16 _ | .addHL _ => 8
  | .alu _ .atHL => 8
  | .rot _ (.reg _) | .bit _ (.reg _) | .res _ (.reg _) | .set _ (.reg _) => 8
  | .ldR16 _ _ | .ldMN _ | .ldhNA _ | .ldhAN _ | .ldHLSP _ | .pop _ | .jr _ => 12
  | .inc8 .atHL | .dec8 .atHL | .bit _ .atHL => 12
  | .jp _ | .ldNNA _ | .ldANN _ | .push _ | .ret | .reti | .rst _ | .addSP _ => 16
  | .rot _ .atHL | .res _ .atHL | .set _ .atHL => 16
  | .ldNNSP _ => 20
  | .call _ => 24
  | .jpCc cc _ => if s.holds cc then 16 else 12
  | .jrCc cc _ => if s.holds cc then 12 else 8
  | .callCc cc _ => if s.holds cc then 24 else 12
  | .retCc cc => if s.holds cc then 20 else 8
  | .cbPrefix _ | .illegal _ => 0

/-! ### The invariant between two steps -/

/-- What holds of the machine between two steps, whatever its parameters and its host: the low nibble
of F is 0 (R22), the memory is in canonical form, the accumulators are below their bounds (R34), IME
is never `PendingNewInstruction` (R287), the core is not halted and stopped at once, and haltBug and
the halted state occur only as R33, R224 and R303 let them. -/
structure State.Inv (s : State) : Prop where
  flagsLow : s.regs.f &&& 0x0F = 0
  memory : s.mem.wf
  divAcc : s.timer.divAcc < 256
  timaAcc : s.cfg.timaAcc = .frozen → s.timer.timaAcc < 1024
  ime : s.ime ≠ .pendingNewInstruction
  oneLowPower : ¬ (s.halted = true ∧ s.stopped = true)
  haltBug : s.haltBug = true → s.cfg.haltPolicy = .sm83 ∧ s.halted = false ∧ s.stopped = false
  haltedIme : s.cfg.haltPolicy = .fault → s.halted = true → s.ime = .set

end Sys2Proof.Machine
end

