-- ==== Sys2Proof/Certificates/Slice0/Obligations.lean ====
section
/-!
DEFINITION. The statements for the provers. `Form.instr` names the instruction of a form, so that a
statement over all operands of a form is about every row of the opcode table with that shape:
`(Form.alu .add (.reg .b)).instr` is the row `ADD A,B`. Where the spec marks what it says as its own
decision D<n> or as general knowledge, the docstring says so.
-/

open Sys2Proof Sys2Proof.Machine

/-! ### Encoding -/

/-- Decoding the bytes of a well-formed instruction gives it back, with every operand, and leaves the
bytes after it (R90 to R109; the encodings are decision D1). -/
def Obligations.EncodeThenDecode : Prop :=
  ∀ (i : Instr) (rest : List Byte), i.wellFormed = true →
    decode (encode i ++ rest) = .ok (i, rest)

/-- Whatever bytes decode, what is decoded is well-formed and its encoding is exactly the bytes
consumed: each word has one meaning and no bit is dropped (R91, R92; decision D1). -/
def Obligations.DecodeThenEncode : Prop :=
  ∀ (bytes : List Byte) (i : Instr) (rest : List Byte), decode bytes = .ok (i, rest) →
    i.wellFormed = true ∧ encode i ++ rest = bytes

/-- The opcode bytes of every form with an operand code are built from that code (R96 to R104, R106,
R107; decision D1), immediate words low byte first (R70). -/
def Obligations.OpcodesAreBuiltFromOperandCodes : Prop :=
  (∀ dst r, encode (Form.ldRR dst r).instr = [BitVec.ofNat 8 (0x40 + 8 * dst.code + r.code)]) ∧
  (∀ dst, encode (Form.ldRM dst).instr = [BitVec.ofNat 8 (0x46 + 8 * dst.code)]) ∧
  (∀ r, encode (Form.ldMR r).instr = [BitVec.ofNat 8 (0x70 + r.code)]) ∧
  (∀ dst n, encode (Form.ldRN dst n).instr = [BitVec.ofNat 8 (0x06 + 8 * dst.code), n]) ∧
  (∀ p, encode (Form.ldIndA p).instr = [BitVec.ofNat 8 (0x02 + 16 * p.code)]) ∧
  (∀ p, encode (Form.ldAInd p).instr = [BitVec.ofNat 8 (0x0A + 16 * p.code)]) ∧
  (∀ p nn, encode (Form.ldR16 p nn).instr =
    [BitVec.ofNat 8 (0x01 + 16 * p.code), BitVec.ofNat 8 nn.toNat,
      BitVec.ofNat 8 (nn.toNat / 256)]) ∧
  (∀ p, encode (Form.push p).instr = [BitVec.ofNat 8 (0xC5 + 16 * p.code)]) ∧
  (∀ p, encode (Form.pop p).instr = [BitVec.ofNat 8 (0xC1 + 16 * p.code)]) ∧
  (∀ k o, encode (Form.alu k o).instr = [BitVec.ofNat 8 (0x80 + 8 * k.code + o.code)]) ∧
  (∀ k n, encode (Form.aluN k n).instr = [BitVec.ofNat 8 (0xC6 + 8 * k.code), n]) ∧
  (∀ o, encode (Form.inc8 o).instr = [BitVec.ofNat 8 (0x04 + 8 * o.code)]) ∧
  (∀ o, encode (Form.dec8 o).instr = [BitVec.ofNat 8 (0x05 + 8 * o.code)]) ∧
  (∀ p, encode (Form.addHL p).instr = [BitVec.ofNat 8 (0x09 + 16 * p.code)]) ∧
  (∀ p, encode (Form.incR16 p).instr = [BitVec.ofNat 8 (0x03 + 16 * p.code)]) ∧
  (∀ p, encode (Form.decR16 p).instr = [BitVec.ofNat 8 (0x0B + 16 * p.code)]) ∧
  (∀ k o, encode (Form.rot k o).instr = [0xCB, BitVec.ofNat 8 (8 * k.code + o.code)]) ∧
  (∀ b o, encode (Form.bit b o).instr = [0xCB, BitVec.ofNat 8 (0x40 + 8 * b.val + o.code)]) ∧
  (∀ b o, encode (Form.res b o).instr = [0xCB, BitVec.ofNat 8 (0x80 + 8 * b.val + o.code)]) ∧
  (∀ b o, encode (Form.set b o).instr = [0xCB, BitVec.ofNat 8 (0xC0 + 8 * b.val + o.code)]) ∧
  (∀ cc e, encode (Form.jrCc cc e).instr = [BitVec.ofNat 8 (0x20 + 8 * cc.code), e]) ∧
  (∀ cc, encode (Form.retCc cc).instr = [BitVec.ofNat 8 (0xC0 + 8 * cc.code)]) ∧
  (∀ cc nn, encode (Form.jpCc cc nn).instr =
    [BitVec.ofNat 8 (0xC2 + 8 * cc.code), BitVec.ofNat 8 nn.toNat,
      BitVec.ofNat 8 (nn.toNat / 256)]) ∧
  (∀ cc nn, encode (Form.callCc cc nn).instr =
    [BitVec.ofNat 8 (0xC4 + 8 * cc.code), BitVec.ofNat 8 nn.toNat,
      BitVec.ofNat 8 (nn.toNat / 256)]) ∧
  (∀ t, encode (Form.rst t).instr = [BitVec.ofNat 8 (0xC7 + 8 * t.val)])

/-- One word of each family, written out from the opcode map (R108, R107; decision D1), decodes to
the instruction it stands for. -/
def Obligations.SampleWordsDecode : Prop :=
  decode [0x41] = .ok (.ldB_C, []) ∧
  decode [0x3E, 0x12] = .ok (.ldA_N 0x12, []) ∧
  decode [0x21, 0x5B, 0x3A] = .ok (.ldHL_NN 0x3A5B, []) ∧
  decode [0xF5] = .ok (.pushAF, []) ∧
  decode [0x8E] = .ok (.adcA_AtHL, []) ∧
  decode [0x39] = .ok (.addHL_SP, []) ∧
  decode [0x17] = .ok (.rla, []) ∧
  decode [0xCB, 0x9E] = .ok (.res3_AtHL, []) ∧
  decode [0xDC, 0x00, 0x20] = .ok (.callC_NN 0x2000, []) ∧
  decode [0x10, 0x00] = .ok (.stop 0x00, []) ∧
  decode [0xDD] = .ok (.illegal 0xDD, [])

/-- The first bytes that decode to the instruction `illegal` are exactly the eleven of R109, and
`illegal` always faults with no next state (R227, decision D4). No bytes decode to the constructor
`cb`: the prefix byte is no instruction of its own (R226), and that the table's row for it is a
constructor which no decoding yields is the model's choice (log 8). -/
def Obligations.IllegalFirstBytesFault : Prop :=
  (∀ b0 b1 b2 : Byte, (∃ op, decodeBytes b0 b1 b2 = .illegal op) ↔
    b0 ∈ ([0xD3, 0xDB, 0xDD, 0xE3, 0xE4, 0xEB, 0xEC, 0xED, 0xF4, 0xFC, 0xFD] : List Byte)) ∧
  (∀ b0 b1 b2 op2 : Byte, decodeBytes b0 b1 b2 ≠ .cb op2) ∧
  (∀ (op : Byte) (s : State), exec (.illegal op) s = .fault .illegalOpcode)

/-! ### The step -/

/-- A step of a running core runs the instruction whose bytes stand at PC: `exec` of it with PC past
its bytes, then the epilogue, the tick of the cost it returned, and the end of the step; a fault ends
the step (R92, R280; the order is decision D26). -/
def Obligations.StepRunsTheDecodedInstruction : Prop :=
  ∀ (s : State) (i : Instr) (rest : List Byte),
    s.stopped = false → s.halted = false → s.haltBug = false →
    decode [s.memRead s.pc, s.memRead (s.pc + 1), s.memRead (s.pc + 2)] = .ok (i, rest) →
    step s =
      match exec i (s.setPc (s.pc + BitVec.ofNat 16 (3 - rest.length))) with
      | .next t => .next ((t.epilogue.tick t.cycles).finishStep)
      | .fault r => .fault r
      | .refused r => .refused r

/-- With haltBug set the byte at PC is read twice: it is the opcode and the byte after the opcode,
PC ends one byte short, and haltBug is cleared (R305; decision D16). That this holds under the
policy `fault` too, where R33 has no such bit, is the model's choice (log 7). -/
def Obligations.HaltBugReadsTheNextByteTwice : Prop :=
  ∀ s : State, s.haltBug = true →
    s.fetchInstr =
      (decodeBytes (s.memRead s.pc) (s.memRead s.pc) (s.memRead (s.pc + 1)),
        (s.setHaltBug false).setPc
          (s.pc + BitVec.ofNat 16 (instrLength (s.memRead s.pc) - 1)))

/-- A step of a halted core with a quiet host ticks 4 cycles and nothing more while no request is
pending and enabled; otherwise it wakes, and dispatches if IME is Set (R303, R304; decisions D17,
D29). -/
def Obligations.HaltedStepIdlesUntilARequest : Prop :=
  ∀ s : State, s.stopped = false → s.halted = true → s.host = [] →
    ((s.tick 4).ie &&& (s.tick 4).ifl &&& 0x1F = 0 → step s = .next (s.tick 4)) ∧
    ((s.tick 4).ie &&& (s.tick 4).ifl &&& 0x1F ≠ 0 → s.ime ≠ .set →
      step s = .next ((s.tick 4).setHalted false)) ∧
    (∀ q, (s.tick 4).firstPending = some q → s.ime = .set →
      step s = .next ((s.tick 4).enterInterrupt q))

/-- A step of a stopped core runs and ticks nothing: with a quiet host the state stays, a host input
that does not wake it has its own effect only, and one that wakes it is followed by the service
phase (R280, R308; decision D18). That the outcome *Held* of R13 is given as a next state is the
model's choice (log 6). -/
def Obligations.StoppedStepIsHeldUntilTheHostWakes : Prop :=
  ∀ s : State, s.stopped = true →
    (s.host = [] → step s = .next s) ∧
    (∀ h rest, s.host = h :: rest →
      (h.wake = false → step s = .next ((s.setHost rest).applyInput h)) ∧
      (h.wake = true → step s = .next ((s.setHost rest).applyInput h).service))

/-- The host's power over the core (R286, R288, R308, R318; decision D32): its input raises IF bits 0, 1,
3 and 4 only, replaces the low nibble of the joypad's stored byte, and wakes a stopped core. It acts at
the end of a step, before the service phase, which a stopped core does not have (R280; decision D26);
an empty list of inputs is the quiet host (log 5). -/
def Obligations.HostInputEffectAndPlace : Prop :=
  (∀ (h : HostInput) (s : State),
    (∀ n : Fin 8, (s.applyInput h).ifl.getLsbD n =
      (s.ifl.getLsbD n || (h.raise.getLsbD n && decide (n.val ∈ [0, 1, 3, 4])))) ∧
    (h.buttons = none → (s.applyInput h).joyp = s.joyp) ∧
    (∀ b, h.buttons = some b →
      (s.applyInput h).joyp.toNat = s.joyp.toNat / 16 * 16 + b.toNat) ∧
    (s.applyInput h).stopped = (s.stopped && !h.wake) ∧
    s.applyInput h =
      ((s.setIfl (s.applyInput h).ifl).setJoyp (s.applyInput h).joyp).setStopped
        (s.applyInput h).stopped) ∧
  (∀ s : State,
    (s.host = [] → s.finishStep = if s.stopped then s else s.service) ∧
    (∀ h rest, s.host = h :: rest →
      s.finishStep =
        if ((s.setHost rest).applyInput h).stopped then (s.setHost rest).applyInput h
        else ((s.setHost rest).applyInput h).service))

/-! ### Registers and flags -/

/-- The register file (R10, R21 to R23, R97 to R99; the flags' bit numbers are decision D5). Each of
the seven data registers is read by its own name and keeps what is written to it, and the write
touches nothing else. Pairs are views, high byte first; writing one writes its two halves and
nothing else, and it keeps what is written, but for AF, which drops the low nibble of F. The pair
operands BC, DE, HL, SP and the stack operands BC, DE, HL, AF read and write the pair of that name.
The four flags are bits 7, 6, 5 and 4 of F, and the conditions read Z and C. Writing the four flags
sets those bits and leaves every data register and all else alone, and the other bits of F too (that
last is log 9). -/
def Obligations.RegistersPairsAndFlagsKeepWhatIsWritten : Prop :=
  (∀ (s : State) (r : Reg8) (v : Byte),
    s.getReg r =
      (match r with
      | .a => s.regs.a
      | .b => s.regs.b
      | .c => s.regs.c
      | .d => s.regs.d
      | .e => s.regs.e
      | .h => s.regs.h
      | .l => s.regs.l) ∧
    (s.setReg r v).getReg r = v ∧
    (∀ q, q ≠ r → (s.setReg r v).getReg q = s.getReg q) ∧
    (s.setReg r v).regs.f = s.regs.f ∧
    (s.setReg r v).setRegs s.regs = s) ∧
  (∀ (s : State) (v : Word),
    s.bc = s.regs.b ++ s.regs.c ∧ s.de = s.regs.d ++ s.regs.e ∧
    s.hl = s.regs.h ++ s.regs.l ∧ s.af = s.regs.a ++ s.regs.f ∧
    s.setBc v = { s with regs :=
      { s.regs with b := v.extractLsb' 8 8, c := v.extractLsb' 0 8 } } ∧
    s.setDe v = { s with regs :=
      { s.regs with d := v.extractLsb' 8 8, e := v.extractLsb' 0 8 } } ∧
    s.setHl v = { s with regs :=
      { s.regs with h := v.extractLsb' 8 8, l := v.extractLsb' 0 8 } } ∧
    s.setAf v = { s with regs :=
      { s.regs with a := v.extractLsb' 8 8, f := v.extractLsb' 0 8 &&& 0xF0 } } ∧
    (∀ p, (s.writePair p v).readPair p = v) ∧
    (s.setAf v).af = v &&& 0xFFF0) ∧
  (∀ (s : State) (v : Word),
    s.readPair .bc = s.bc ∧ s.readPair .de = s.de ∧ s.readPair .hl = s.hl ∧
    s.readPair .sp = s.sp ∧
    s.writePair .bc v = s.setBc v ∧ s.writePair .de v = s.setDe v ∧
    s.writePair .hl v = s.setHl v ∧ s.writePair .sp v = { s with sp := v } ∧
    s.readStk .bc = s.bc ∧ s.readStk .de = s.de ∧ s.readStk .hl = s.hl ∧
    s.readStk .af = s.af ∧
    s.writeStk .bc v = s.setBc v ∧ s.writeStk .de v = s.setDe v ∧
    s.writeStk .hl v = s.setHl v ∧ s.writeStk .af v = s.setAf v) ∧
  (∀ s : State,
    s.flagZ = s.regs.f.getLsbD 7 ∧ s.flagN = s.regs.f.getLsbD 6 ∧
    s.flagH = s.regs.f.getLsbD 5 ∧ s.flagC = s.regs.f.getLsbD 4 ∧
    s.holds .nz = !s.flagZ ∧ s.holds .z = s.flagZ ∧
    s.holds .nc = !s.flagC ∧ s.holds .c = s.flagC) ∧
  (∀ (s : State) (z n h c : Bool),
    (s.setFlags z n h c).regs.f.getLsbD 7 = z ∧
    (s.setFlags z n h c).regs.f.getLsbD 6 = n ∧
    (s.setFlags z n h c).regs.f.getLsbD 5 = h ∧
    (s.setFlags z n h c).regs.f.getLsbD 4 = c ∧
    (s.setFlags z n h c).regs.f &&& 0x0F = s.regs.f &&& 0x0F ∧
    (∀ r, (s.setFlags z n h c).getReg r = s.getReg r) ∧
    (s.setFlags z n h c).setRegs s.regs = s)

/-! ### Memory -/

/-- What a read of each region returns (R52): the byte of storage that belongs to the address, the
byte of work RAM for the echo (decision D36), zero, or a device's byte. -/
def Obligations.EachRegionIsReadAsTheMapSays : Prop :=
  ∀ (s : State) (a : Word),
    (a.toNat ≤ 0xDFFF → s.memRead a = s.mem.get a.toNat) ∧
    (0xE000 ≤ a.toNat → a.toNat ≤ 0xFDFF → s.memRead a = s.mem.get (a.toNat - 0x2000)) ∧
    (0xFE00 ≤ a.toNat → a.toNat ≤ 0xFE9F → s.memRead a = s.mem.get a.toNat) ∧
    (0xFEA0 ≤ a.toNat → a.toNat ≤ 0xFEFF → s.memRead a = 0x00) ∧
    (0xFF80 ≤ a.toNat → a.toNat ≤ 0xFFFE → s.memRead a = s.mem.get a.toNat) ∧
    s.memRead 0xFF00 = s.joyp ||| 0x0F ∧ s.memRead 0xFF04 = s.timer.div ∧
    s.memRead 0xFF05 = s.timer.tima ∧ s.memRead 0xFF06 = s.timer.tma ∧
    s.memRead 0xFF07 = s.timer.tac ∧ s.memRead 0xFF0F = s.ifl ∧ s.memRead 0xFFFF = s.ie

/-- A byte written to any address of the ROM, RAM, echo, OAM or high RAM regions, to TIMA, TMA, TAC, IF
or IE is read back from there (R68, R55; all eight bits of TAC and IF are decision D21). -/
def Obligations.WritableBytesReadBack : Prop :=
  ∀ (s : State) (a : Word) (v : Byte),
    (a.toNat < 0xFEA0 ∨ 0xFF80 ≤ a.toNat ∨ a = 0xFF05 ∨ a = 0xFF06 ∨ a = 0xFF07 ∨ a = 0xFF0F) →
    (s.memWrite a v).memRead a = v

/-- A write leaves every byte it does not select as it was, and touches no register, no flag, neither
IME nor the low-power states, DIV and timaAcc never, divAcc only at 0xFF04 (R54, R59). -/
def Obligations.AWriteChangesOnlyTheSelectedByte : Prop :=
  ∀ (s : State) (a : Word) (v : Byte),
    (∀ b, ¬ SameByte b a → (s.memWrite a v).memRead b = s.memRead b) ∧
    (s.memWrite a v).regs = s.regs ∧ (s.memWrite a v).sp = s.sp ∧ (s.memWrite a v).pc = s.pc ∧
    (s.memWrite a v).ime = s.ime ∧ (s.memWrite a v).halted = s.halted ∧
    (s.memWrite a v).stopped = s.stopped ∧ (s.memWrite a v).haltBug = s.haltBug ∧
    (s.memWrite a v).timer.div = s.timer.div ∧
    (s.memWrite a v).timer.timaAcc = s.timer.timaAcc ∧
    (s.memWrite a v).timer.divAcc = (if a = 0xFF04 then 0 else s.timer.divAcc) ∧
    (s.memWrite a v).joyp &&& 0x0F = s.joyp &&& 0x0F

/-- Echo RAM aliases work RAM, and nothing else aliases (R52, R56; the range is decision D36): a write
through either address is the same write, so each reads what was written through the other; and an
address below 0xFEA0 or from 0xFF80 on selects the same byte as another only if the two are equal or
one is the echo of the other. -/
def Obligations.OnlyTheEchoAliasesWorkRam : Prop :=
  (∀ (s : State) (k : Fin 0x1E00) (v : Byte),
    s.memWrite (BitVec.ofNat 16 (0xE000 + k.val)) v =
      s.memWrite (BitVec.ofNat 16 (0xC000 + k.val)) v ∧
    (s.memWrite (BitVec.ofNat 16 (0xC000 + k.val)) v).memRead
      (BitVec.ofNat 16 (0xE000 + k.val)) = v ∧
    (s.memWrite (BitVec.ofNat 16 (0xE000 + k.val)) v).memRead
      (BitVec.ofNat 16 (0xC000 + k.val)) = v) ∧
  (∀ a b : Word, (a.toNat < 0xFEA0 ∨ 0xFF80 ≤ a.toNat) →
    (SameByte a b ↔
      a = b ∨
      (0xE000 ≤ a.toNat ∧ a.toNat ≤ 0xFDFF ∧ a.toNat = b.toNat + 0x2000) ∨
      (0xE000 ≤ b.toNat ∧ b.toNat ≤ 0xFDFF ∧ b.toNat = a.toNat + 0x2000)))

/-- The unusable region reads as zero whatever was written anywhere before, and discards every write
(R57). -/
def Obligations.UnusableRegionReadsZeroAndDiscardsWrites : Prop :=
  ∀ (s : State) (a : Word), 0xFEA0 ≤ a.toNat → a.toNat ≤ 0xFEFF →
    s.memRead a = 0x00 ∧
    (∀ v, s.memWrite a v = s) ∧
    (∀ b v, (s.memWrite b v).memRead a = 0x00)

/-- TIMA and TMA are read and written directly, and the write of TIMA does not touch timaAcc (R60,
R61). -/
def Obligations.CounterAndModuloAreReadAndWrittenDirectly : Prop :=
  ∀ (s : State) (v : Byte),
    s.memRead 0xFF05 = s.timer.tima ∧
    s.memWrite 0xFF05 v = { s with timer := { s.timer with tima := v } } ∧
    s.memRead 0xFF06 = s.timer.tma ∧
    s.memWrite 0xFF06 v = { s with timer := { s.timer with tma := v } }

/-- IE is a plain byte in a region of its own, and a push with SP = 0x0000 writes its first byte there
(R67). -/
def Obligations.InterruptEnableIsAPlainByte : Prop :=
  ∀ (s : State) (v : Byte) (w : Word),
    s.memRead 0xFFFF = s.ie ∧
    s.memWrite 0xFFFF v = { s with ie := v } ∧
    (∀ a, regionOf a = .interruptEnable ↔ a = 0xFFFF) ∧
    (∀ a, regionOf a = .io ↔ 0xFF00 ≤ a.toNat ∧ a.toNat ≤ 0xFF7F) ∧
    (s.sp = 0x0000 →
      s.push16 w = ((s.memWrite 0xFFFF (w.extractLsb' 8 8)).memWrite 0xFFFE
        (w.extractLsb' 0 8)).setSp 0xFFFE)

/-- The remaining bytes of the I/O window (R58, R59, R62 to R66; decisions D20 to D23, D31): the joypad
register keeps the top nibble of a write and reads its low nibble as 1111; a write to the divider
clears divAcc and stores nothing; TAC and IF are read and written whole; every other address of the
window discards writes, and reads 0x00 in the sound and colour ranges and the fixed parameter
elsewhere. -/
def Obligations.DeviceBytesAndStubs : Prop :=
  (∀ (s : State) (v : Byte),
    (∀ n : Fin 8, (s.memRead 0xFF00).getLsbD n = (decide (n.val < 4) || s.joyp.getLsbD n)) ∧
    (∀ n : Fin 8, (s.memWrite 0xFF00 v).joyp.getLsbD n =
      if n.val < 4 then s.joyp.getLsbD n else v.getLsbD n) ∧
    s.memWrite 0xFF00 v = { s with joyp := (s.memWrite 0xFF00 v).joyp } ∧
    s.memWrite 0xFF04 v = { s with timer := { s.timer with divAcc := 0 } } ∧
    s.memWrite 0xFF07 v = { s with timer := { s.timer with tac := v } } ∧
    s.memWrite 0xFF0F v = { s with ifl := v }) ∧
  (∀ (s : State) (a : Word), 0xFF00 ≤ a.toNat → a.toNat ≤ 0xFF7F →
    a ∉ ([0xFF00, 0xFF04, 0xFF05, 0xFF06, 0xFF07, 0xFF0F] : List Word) →
    (∀ v, s.memWrite a v = s) ∧
    s.memRead a =
      (if (0xFF10 ≤ a.toNat ∧ a.toNat ≤ 0xFF3F) ∨ (0xFF4F ≤ a.toNat ∧ a.toNat ≤ 0xFF77) then 0x00
       else Memory.get s.cfg.ioStub a.toNat))

/-! ### Timer -/

/-- The divider counts one for every 256 ticked cycles and wraps silently: DIV and its accumulator
together are the cycle count (R310, R311). -/
def Obligations.DividerCountsEvery256Cycles : Prop :=
  ∀ (n : Nat) (s : State),
    (s.tick n).timer.divAcc < 256 ∧
    (s.tick n).timer.div.toNat * 256 + (s.tick n).timer.divAcc =
      (s.timer.div.toNat * 256 + s.timer.divAcc + n) % 65536

/-- The counter in closed form (R310, R312, R313; bit 2 of IF is decision D15). With TAC bit 2 set, a
tick counts once per period of accumulated cycles; while the count stays below 256 nothing else
happens, and past it TIMA runs on from TMA, round and round, and the request is set. With TAC bit 2
clear nothing is counted, and the accumulator is frozen or grows by `TIMA_ACC_WHEN_DISABLED`
(decision D19). -/
def Obligations.CounterClosedForm : Prop :=
  ∀ (n : Nat) (s : State),
    (s.timer.tac.getLsbD 2 = true →
      ∀ period count, period = ([1024, 16, 64, 256] : List Nat).getD (s.timer.tac.toNat % 4) 0 →
        count = s.timer.tima.toNat + (s.timer.timaAcc + n) / period →
        (s.tick n).timer.timaAcc = (s.timer.timaAcc + n) % period ∧
        (count < 256 → (s.tick n).timer.tima.toNat = count ∧ (s.tick n).ifl = s.ifl) ∧
        (256 ≤ count →
          (s.tick n).timer.tima.toNat =
            s.timer.tma.toNat + (count - 256) % (256 - s.timer.tma.toNat) ∧
          (s.tick n).ifl = s.ifl ||| 0x04)) ∧
    (s.timer.tac.getLsbD 2 = false →
      (s.tick n).timer.tima = s.timer.tima ∧ (s.tick n).ifl = s.ifl ∧
      (s.tick n).timer.timaAcc =
        match s.cfg.timaAcc with
        | .frozen => s.timer.timaAcc
        | .accumulates => s.timer.timaAcc + n)

/-- Ticking twice is ticking the sum (R315). -/
def Obligations.TicksAdd : Prop :=
  ∀ (m n : Nat) (s : State), (s.tick m).tick n = s.tick (m + n)

/-- A tick changes DIV, TIMA, the two accumulators and bit 2 of IF, and nothing else (R51, R310). -/
def Obligations.ATickChangesOnlyTheTimer : Prop :=
  ∀ (n : Nat) (s : State),
    s.tick n = (s.setTimer (s.tick n).timer).setIfl (s.tick n).ifl ∧
    (s.tick n).timer.tma = s.timer.tma ∧ (s.tick n).timer.tac = s.timer.tac ∧
    (∀ k : Fin 8, k.val ≠ 2 → (s.tick n).ifl.getLsbD k = s.ifl.getLsbD k) ∧
    (s.ifl.getLsbD 2 = true → (s.tick n).ifl.getLsbD 2 = true)

/-! ### IME and interrupts -/

/-- DI gives Unset from every state, the epilogue that follows leaves Unset, and at the end of the step of
a DI no interrupt is dispatched, whatever is pending and enabled and whatever the host does: PC, SP and
the registers are those the fetch left (R282). -/
def Obligations.DiForcesUnsetAtOnce : Prop :=
  (∀ s : State, ∃ t, exec .di s = .next t ∧ t.ime = .unset ∧ t.epilogue.ime = .unset) ∧
  (∀ s : State, s.stopped = false → s.halted = false → s.fetchInstr.1 = .di →
    ∃ t, step s = .next t ∧ t.ime = .unset ∧
      t.pc = s.fetchInstr.2.pc ∧ t.sp = s.sp ∧ t.regs = s.regs)

/-- The epilogue (R285): it moves IME by one state and changes nothing else; it runs once, after the
operation, in the step of every executed instruction, and in no idle step and no stopped step; so
IME is Set after one full instruction past the EI. A dispatch leaves IME Unset, which the epilogue
would not change: that no epilogue runs in a dispatch is the whole effect that the statement
DispatchEffect gives. -/
def Obligations.EpilogueMovesImeByOneState : Prop :=
  (∀ s : State, s.epilogue = s.setIme (
    if s.ime = .pendingInstructionCompletion then .set
    else if s.ime = .pendingNewInstruction then .pendingInstructionCompletion
    else s.ime)) ∧
  (∀ s t : State, s.stopped = false → s.halted = false →
    exec s.fetchInstr.1 s.fetchInstr.2 = .next t →
    step s = .next ((t.epilogue.tick t.cycles).finishStep)) ∧
  (∀ s : State, s.stopped = false → s.halted = true → step s = .next (s.tick 4).finishStep) ∧
  (∀ s : State, s.stopped = true → step s = .next s.finishStep) ∧
  (∀ (s : State) (q : IrqSource), (s.enterInterrupt q).ime = .unset) ∧
  (∀ s t : State, s.ime = .unset → exec .ei s = .next t →
    t.epilogue.ime = .pendingInstructionCompletion) ∧
  (∀ (i : Instr) (s t : State), s.ime = .pendingInstructionCompletion → i ≠ .di →
    exec i s = .next t → t.epilogue.ime = .set)

/-- What every instruction does to IME (R287; EI from Set is decision D12): DI, EI and RETI write it as
the table says and no other instruction touches it. -/
def Obligations.OnlyDiEiRetiWriteIme : Prop :=
  ∀ (i : Instr) (s t : State), exec i s = .next t →
    t.ime = imeWrite s.cfg.eiFromSet i.effect s.ime

/-- EI takes effect one instruction late (R339, R287; EI from Set under `EI_FROM_SET = restart` is
decision D12): the step of an EI from Unset, or from Set under restart, leaves IME
PendingInstructionCompletion and dispatches nothing, whatever is pending and enabled and whatever
the host does: SP and the registers stay, and PC is past the byte, or still at it where haltBug held
it there (R305), which is then cleared. Nothing is said here of EI from a pending state. -/
def Obligations.EiIsDelayedByOneInstruction : Prop :=
  ∀ s : State, s.stopped = false → s.halted = false →
    (s.ime = .unset ∨ (s.ime = .set ∧ s.cfg.eiFromSet = .restart)) →
    s.memRead s.pc = 0xFB →
    ∃ t, step s = .next t ∧ t.ime = .pendingInstructionCompletion ∧
      t.pc = (if s.haltBug then s.pc else s.pc + 1) ∧ t.haltBug = false ∧
      t.sp = s.sp ∧ t.regs = s.regs

/-- When an interrupt is dispatched, and which (R290, R291, R303; decisions D14, D17): exactly one, the
pending and enabled request of lowest number, and only with IME Set; with IME not Set a pending and
enabled request only ends the halted state; without one nothing happens. -/
def Obligations.LowestEnabledRequestIsDispatched : Prop :=
  ∀ s : State,
    (∀ q : IrqSource, s.ime = .set → (s.ie &&& s.ifl).getLsbD q.number = true →
      (∀ p : IrqSource, p.number < q.number → (s.ie &&& s.ifl).getLsbD p.number = false) →
      s.service = s.enterInterrupt q) ∧
    (s.ime ≠ .set → s.ie &&& s.ifl &&& 0x1F ≠ 0 → s.service = s.setHalted false) ∧
    (s.ie &&& s.ifl &&& 0x1F = 0 → s.service = s)

/-- What dispatch does (R292; decisions D14, D33), for the five sources in order: IME is Unset, that
request alone is cleared, PC is pushed high byte first, PC is 0x40 + 8n, halted and haltBug are
cleared, and 20 cycles are ticked. -/
def Obligations.DispatchEffect : Prop :=
  ∀ (s : State) (n : Fin 5) (q : IrqSource),
    q = ([.verticalBlank, .displayStatus, .timer, .serial, .joypad] : List IrqSource).get n →
    s.enterInterrupt q =
      State.tick 20
        { (((s.setIme .unset).setIfl (s.ifl &&& ~~~ BitVec.ofNat 8 (2 ^ n.val))).memWrite
            (s.sp - 1) (s.pc.extractLsb' 8 8)).memWrite (s.sp - 2) (s.pc.extractLsb' 0 8) with
          sp := s.sp - 2, pc := BitVec.ofNat 16 (0x40 + 8 * n.val), halted := false,
          haltBug := false }

/-- A handler returns by RETI to where it was entered (R292, R294): after a dispatch whose stack bytes
are two different bytes of storage, RETI gives PC, SP and all registers back and sets IME. -/
def Obligations.RetiReturnsFromDispatch : Prop :=
  ∀ (s : State) (q : IrqSource) (j k : Nat),
    target (s.sp - 1) = .storage j → target (s.sp - 2) = .storage k → j ≠ k →
    ∃ t, exec .reti (s.enterInterrupt q) = .next t ∧
      t.pc = s.pc ∧ t.sp = s.sp ∧ t.regs = s.regs ∧ t.ime = .set

/-! ### 8-bit loads -/

/-- `LD r,r'`, `LD r,(HL)`, `LD (HL),r`, `LD r,n`, `LD (HL),n` (R231 to R235; decision D37): each answers
the state with the source's value in its register, or written to the byte at HL, and nothing else but
the cost changed. -/
def Obligations.LoadsOfRegistersAndTheByteAtHL : Prop :=
  ∀ s : State,
    (∀ dst r, exec (Form.ldRR dst r).instr s = .next ((s.setReg dst (s.getReg r)).setCycles 4)) ∧
    (∀ dst, exec (Form.ldRM dst).instr s = .next ((s.setReg dst (s.memRead s.hl)).setCycles 8)) ∧
    (∀ r, exec (Form.ldMR r).instr s = .next ((s.memWrite s.hl (s.getReg r)).setCycles 8)) ∧
    (∀ dst n, exec (Form.ldRN dst n).instr s = .next ((s.setReg dst n).setCycles 8)) ∧
    (∀ n, exec (Form.ldMN n).instr s = .next ((s.memWrite s.hl n).setCycles 12))

/-- The loads and stores of A (R236 to R249; decision D37): at BC, DE and HL, with HL moved by one after
the access for (HL+) and (HL-), modulo 65536; in the high page at 0xFF00 + n and 0xFF00 + C; at an
absolute address. -/
def Obligations.LoadsAndStoresOfA : Prop :=
  ∀ s : State,
    exec (Form.ldAInd .bc).instr s = .next ((s.setReg .a (s.memRead s.bc)).setCycles 8) ∧
    exec (Form.ldAInd .de).instr s = .next ((s.setReg .a (s.memRead s.de)).setCycles 8) ∧
    exec (Form.ldAInd .hli).instr s =
      .next (((s.setReg .a (s.memRead s.hl)).setHl (s.hl + 1)).setCycles 8) ∧
    exec (Form.ldAInd .hld).instr s =
      .next (((s.setReg .a (s.memRead s.hl)).setHl (s.hl - 1)).setCycles 8) ∧
    exec (Form.ldIndA .bc).instr s = .next ((s.memWrite s.bc s.regs.a).setCycles 8) ∧
    exec (Form.ldIndA .de).instr s = .next ((s.memWrite s.de s.regs.a).setCycles 8) ∧
    exec (Form.ldIndA .hli).instr s =
      .next (((s.memWrite s.hl s.regs.a).setHl (s.hl + 1)).setCycles 8) ∧
    exec (Form.ldIndA .hld).instr s =
      .next (((s.memWrite s.hl s.regs.a).setHl (s.hl - 1)).setCycles 8) ∧
    (∀ n, exec (Form.ldhNA n).instr s =
      .next ((s.memWrite (BitVec.ofNat 16 (0xFF00 + n.toNat)) s.regs.a).setCycles 12)) ∧
    (∀ n, exec (Form.ldhAN n).instr s =
      .next ((s.setReg .a (s.memRead (BitVec.ofNat 16 (0xFF00 + n.toNat)))).setCycles 12)) ∧
    exec Form.ldCA.instr s =
      .next ((s.memWrite (BitVec.ofNat 16 (0xFF00 + s.regs.c.toNat)) s.regs.a).setCycles 8) ∧
    exec Form.ldAC.instr s =
      .next ((s.setReg .a (s.memRead (BitVec.ofNat 16 (0xFF00 + s.regs.c.toNat)))).setCycles 8) ∧
    (∀ nn, exec (Form.ldNNA nn).instr s = .next ((s.memWrite nn s.regs.a).setCycles 16)) ∧
    (∀ nn, exec (Form.ldANN nn).instr s = .next ((s.setReg .a (s.memRead nn)).setCycles 16))

/-! ### 16-bit loads and the stack -/

/-- `LD rr,nn` writes the pair, `LD (nn),SP` stores SP with the low byte first, at nn and then at nn + 1,
and `LD SP,HL` copies HL (R261 to R263; decision D37). -/
def Obligations.SixteenBitLoads : Prop :=
  ∀ s : State,
    (∀ p nn, exec (Form.ldR16 p nn).instr s = .next ((s.writePair p nn).setCycles 12)) ∧
    (∀ nn, exec (Form.ldNNSP nn).instr s =
      .next (((s.memWrite nn (s.sp.extractLsb' 0 8)).memWrite (nn + 1)
        (s.sp.extractLsb' 8 8)).setCycles 20)) ∧
    exec Form.ldSPHL.instr s = .next ((s.setSp s.hl).setCycles 8)

/-- `PUSH rr` and `PUSH AF` store the high byte at SP - 1 and then the low byte at SP - 2; `POP rr` and
`POP AF` read the low byte at SP and the high byte at SP + 1 (R265 to R268; decisions D28, D30,
D37). -/
def Obligations.PushAndPop : Prop :=
  ∀ (s : State) (p : PairStk),
    exec (Form.push p).instr s =
      .next ((((s.memWrite (s.sp - 1) ((s.readStk p).extractLsb' 8 8)).memWrite (s.sp - 2)
        ((s.readStk p).extractLsb' 0 8)).setSp (s.sp - 2)).setCycles 16) ∧
    exec (Form.pop p).instr s =
      .next (((s.writeStk p (s.memRead (s.sp + 1) ++ s.memRead s.sp)).setSp (s.sp + 2)).setCycles
        12)

/-! ### 8-bit arithmetic and logic -/

/-- `ADD A,x` and `ADC A,x` for x a register, the byte at HL and an immediate: the sum modulo 256, with
the carry in for ADC; Z from it, N = 0, H and C the carries out of bits 3 and 7, carry-in included
(R120 to R125, R152; the carry-in's part in the half-carry is decision D7). -/
def Obligations.AddAndAdc : Prop :=
  ∀ (s : State) (withCarry : Bool),
    let k : AluOp := if withCarry then .adc else .add
    let a : Nat := s.regs.a.toNat
    let cin : Nat := if withCarry && s.flagC then 1 else 0
    let out : Byte → Nat → Result := fun v cycles =>
      .next (((s.setReg .a (BitVec.ofNat 8 (a + v.toNat + cin))).setFlags
        (decide ((a + v.toNat + cin) % 256 = 0)) false
        (decide (a % 16 + v.toNat % 16 + cin > 0x0F))
        (decide (a + v.toNat + cin > 0xFF))).setCycles cycles)
    (∀ r, exec (Form.alu k (.reg r)).instr s = out (s.getReg r) 4) ∧
    exec (Form.alu k .atHL).instr s = out (s.memRead s.hl) 8 ∧
    (∀ n, exec (Form.aluN k n).instr s = out n 8)

/-- `SUB x`, `SBC A,x` and `CP x` for x a register, the byte at HL and an immediate (R126 to R131, R141
to R143, R153; decision D7): the difference modulo 256, H and C are borrows, and CP writes the flags of
SUB and leaves A. -/
def Obligations.SubSbcAndCp : Prop :=
  ∀ (s : State) (withCarry : Bool),
    let k : AluOp := if withCarry then .sbc else .sub
    let a : Int := s.regs.a.toNat
    let cin : Int := if withCarry && s.flagC then 1 else 0
    let out : Byte → Nat → Result := fun v cycles =>
      .next (((s.setReg .a (BitVec.ofInt 8 (a - v.toNat - cin))).setFlags
        (decide ((a - v.toNat - cin) % 256 = 0)) true
        (decide (a % 16 - v.toNat % 16 - cin < 0))
        (decide (a - v.toNat - cin < 0))).setCycles cycles)
    let compared : Byte → Nat → Result := fun v cycles =>
      .next ((s.setFlags (decide (s.regs.a = v)) true
        (decide (s.regs.a.toNat % 16 < v.toNat % 16))
        (decide (s.regs.a.toNat < v.toNat))).setCycles cycles)
    (∀ r, exec (Form.alu k (.reg r)).instr s = out (s.getReg r) 4) ∧
    exec (Form.alu k .atHL).instr s = out (s.memRead s.hl) 8 ∧
    (∀ n, exec (Form.aluN k n).instr s = out n 8) ∧
    (∀ r, exec (Form.alu .cp (.reg r)).instr s = compared (s.getReg r) 4) ∧
    exec (Form.alu .cp .atHL).instr s = compared (s.memRead s.hl) 8 ∧
    (∀ n, exec (Form.aluN .cp n).instr s = compared n 8)

/-- `AND x`, `XOR x`, `OR x` (R132 to R140; decision D7): the result bit by bit, Z from the result,
N = C = 0, and H = 1 for AND only. -/
def Obligations.AndXorOr : Prop :=
  ∀ (s : State),
    let result : AluOp → Byte → Byte := fun k v =>
      BitVec.ofFnLE fun j : Fin 8 =>
        match k with
        | .and => s.regs.a.getLsbD j && v.getLsbD j
        | .xor => s.regs.a.getLsbD j != v.getLsbD j
        | _ => s.regs.a.getLsbD j || v.getLsbD j
    let out : AluOp → Byte → Nat → Result := fun k v cycles =>
      .next (((s.setReg .a (result k v)).setFlags (decide (result k v = 0)) false
        (decide (k = .and)) false).setCycles cycles)
    ∀ k ∈ ([.and, .xor, .or] : List AluOp),
      (∀ r, exec (Form.alu k (.reg r)).instr s = out k (s.getReg r) 4) ∧
      exec (Form.alu k .atHL).instr s = out k (s.memRead s.hl) 8 ∧
      (∀ n, exec (Form.aluN k n).instr s = out k n 8)

/-- `INC r`, `INC (HL)`, `DEC r`, `DEC (HL)` (R144 to R147; decision D7): C is kept, the flags come from
the value computed, and the memory forms hand the byte to the address, whatever that does with it. -/
def Obligations.IncAndDecOfBytes : Prop :=
  ∀ s : State,
    let inced : State → Byte → Nat → Result := fun t v cycles =>
      .next ((t.setFlags (decide (v.toNat = 0xFF)) false (decide (v.toNat % 16 = 15))
        s.flagC).setCycles cycles)
    let deced : State → Byte → Nat → Result := fun t v cycles =>
      .next ((t.setFlags (decide (v.toNat = 1)) true (decide (v.toNat % 16 = 0))
        s.flagC).setCycles cycles)
    (∀ r, exec (Form.inc8 (.reg r)).instr s =
      inced (s.setReg r (BitVec.ofNat 8 ((s.getReg r).toNat + 1))) (s.getReg r) 4) ∧
    (∀ r, exec (Form.dec8 (.reg r)).instr s =
      deced (s.setReg r (BitVec.ofNat 8 ((s.getReg r).toNat + 255))) (s.getReg r) 4) ∧
    exec (Form.inc8 .atHL).instr s =
      inced (s.memWrite s.hl (BitVec.ofNat 8 ((s.memRead s.hl).toNat + 1))) (s.memRead s.hl) 12 ∧
    exec (Form.dec8 .atHL).instr s =
      deced (s.memWrite s.hl (BitVec.ofNat 8 ((s.memRead s.hl).toNat + 255))) (s.memRead s.hl) 12

/-- `DAA` in its three readings (R148; decision D10): A is corrected by 0x06 and 0x60 as each reading's
tests say, N is kept, H is cleared, Z says the corrected value is zero, C says 0x60 was applied. -/
def Obligations.DecimalAdjust : Prop :=
  ∀ s : State,
    let a : Int := s.regs.a.toNat
    let lowTest : Bool := s.flagH || decide (a % 16 > 9)
    let subtracting : Bool := s.flagN && decide (s.cfg.daaVariant = .sm83)
    let low : Int := if (if subtracting then s.flagH else lowTest) then 0x06 else 0x00
    let applies : Bool :=
      s.flagC || match s.cfg.daaVariant with
        | .sm83 => !s.flagN && decide (a > 0x99)
        | .docSequential => decide ((a + low) % 256 / 16 > 9)
        | .docOriginal => decide (a / 16 > 9)
    let adjustment : Int := low + if applies then 0x60 else 0x00
    let value : Int := if subtracting then a - adjustment else a + adjustment
    exec .daa s =
      .next (((s.setReg .a (BitVec.ofInt 8 value)).setFlags (decide (value % 256 = 0)) s.flagN
        false applies).setCycles 4)

/-- What DAA is for (R148, `90_conflicts.md` C9; the default reading, decision D10): after ADC or SBC of
two two-digit decimal numbers, DAA gives the two decimal digits of their sum or difference, and C is
the decimal carry or borrow. -/
def Obligations.DaaGivesDecimalSumsAndDifferences : Prop :=
  ∀ (s : State) (x y : Fin 100) (cin : Nat),
    let packed : Nat → Byte := fun m => BitVec.ofNat 8 (16 * (m / 10) + m % 10)
    s.cfg.daaVariant = .sm83 → s.regs.a = packed x → cin = s.flagC.toNat →
    (∃ t u, exec (.adcA_N (packed y)) s = .next t ∧ exec .daa t = .next u ∧
      u.regs.a = packed ((x.val + y.val + cin) % 100) ∧
      u.flagC = decide (100 ≤ x.val + y.val + cin)) ∧
    (∃ t u, exec (.sbcA_N (packed y)) s = .next t ∧ exec .daa t = .next u ∧
      u.regs.a = packed ((x.val + 200 - y.val - cin) % 100) ∧
      u.flagC = decide (x.val < y.val + cin))

/-- `CPL` complements A and sets N and H, `SCF` sets C, `CCF` inverts it, both clearing N and H (R149 to
R151; decision D7): Z is kept by all three, C by CPL. -/
def Obligations.ComplementAndCarryFlag : Prop :=
  ∀ s : State,
    exec .cpl s = .next (((s.setReg .a (BitVec.ofNat 8 (255 - s.regs.a.toNat))).setFlags
      s.flagZ true true s.flagC).setCycles 4) ∧
    exec .scf s = .next ((s.setFlags s.flagZ false false true).setCycles 4) ∧
    exec .ccf s = .next ((s.setFlags s.flagZ false false (!s.flagC)).setCycles 4)

/-! ### 16-bit arithmetic -/

/-- `ADD HL,rr` (R160; Z is `90_conflicts.md` C6, decision D9): H is the carry out of bit 11, C the one
out of bit 15, both operands read before HL is written. `INC rr` and `DEC rr` (R162, R163; decision
D37) wrap modulo 65536 and write no flag. -/
def Obligations.PairArithmetic : Prop :=
  ∀ (s : State) (p : Pair16),
    let a : Nat := s.hl.toNat
    let b : Nat := (s.readPair p).toNat
    exec (Form.addHL p).instr s =
      .next (((s.setHl (BitVec.ofNat 16 (a + b))).setFlags (decide ((a + b) % 65536 = 0)) false
        (decide (a % 4096 + b % 4096 > 0x0FFF)) (decide (a + b > 0xFFFF))).setCycles 8) ∧
    exec (Form.incR16 p).instr s = .next ((s.writePair p (s.readPair p + 1)).setCycles 8) ∧
    exec (Form.decR16 p).instr s = .next ((s.writePair p (s.readPair p - 1)).setCycles 8)

/-- `ADD SP,e` and `LD HL,SP+e` (R161, R264; decisions D8, D35): the same signed sum modulo 65536, H and
C from the unsigned low bytes; the addition sets Z from the sum, the load clears it. -/
def Obligations.StackPointerPlusDisplacement : Prop :=
  ∀ (s : State) (e : Byte),
    let displacement : Int := if e.toNat < 128 then e.toNat else e.toNat - 256
    let sum : Word := BitVec.ofInt 16 (s.sp.toNat + displacement)
    let h : Bool := decide (s.sp.toNat % 16 + e.toNat % 16 > 0x0F)
    let c : Bool := decide (s.sp.toNat % 256 + e.toNat > 0xFF)
    exec (Form.addSP e).instr s =
      .next (((s.setSp sum).setFlags (decide (sum = 0)) false h c).setCycles 16) ∧
    exec (Form.ldHLSP e).instr s =
      .next (((s.setHl sum).setFlags false false h c).setCycles 12)

/-! ### Rotates, shifts and bits -/

/-- Which bit each rotate and shift moves where, and which it puts into the carry (R196; decision
D11). -/
def Obligations.RotatesAndShiftsBitByBit : Prop :=
  ∀ (k : RotOp) (v : Byte) (cin : Bool),
    (∀ j : Fin 8, (RotOp.run k v cin).1.getLsbD j =
      match k with
      | .rlc => v.getLsbD ((j.val + 7) % 8)
      | .rrc => v.getLsbD ((j.val + 1) % 8)
      | .rl => if j.val = 0 then cin else v.getLsbD (j.val - 1)
      | .rr => if j.val = 7 then cin else v.getLsbD (j.val + 1)
      | .sla => if j.val = 0 then false else v.getLsbD (j.val - 1)
      | .sra => if j.val = 7 then v.getLsbD 7 else v.getLsbD (j.val + 1)
      | .swap => v.getLsbD ((j.val + 4) % 8)
      | .srl => if j.val = 7 then false else v.getLsbD (j.val + 1)) ∧
    (RotOp.run k v cin).2 =
      match k with
      | .rlc | .rl | .sla => v.getLsbD 7
      | .rrc | .rr | .sra | .srl => v.getLsbD 0
      | .swap => false

/-- The rotates of the accumulator clear Z; those of the extended table set Z from the result; both clear
N and H and put the bit moved out into C (R170 to R189; decision D11). -/
def Obligations.RotateAndShiftInstructions : Prop :=
  ∀ s : State,
    let rotated : RotOp → Byte → Byte := fun k v => (RotOp.run k v s.flagC).1
    let out : RotOp → Byte → Bool := fun k v => (RotOp.run k v s.flagC).2
    let accumulator : RotOp → State := fun k =>
      ((s.setReg .a (rotated k s.regs.a)).setFlags false false false
        (out k s.regs.a)).setCycles 4
    exec .rlca s = .next (accumulator .rlc) ∧ exec .rrca s = .next (accumulator .rrc) ∧
    exec .rla s = .next (accumulator .rl) ∧ exec .rra s = .next (accumulator .rr) ∧
    (∀ k r, exec (Form.rot k (.reg r)).instr s =
      .next (((s.setReg r (rotated k (s.getReg r))).setFlags
        (decide (rotated k (s.getReg r) = 0)) false false (out k (s.getReg r))).setCycles 8)) ∧
    (∀ k, exec (Form.rot k .atHL).instr s =
      .next (((s.memWrite s.hl (rotated k (s.memRead s.hl))).setFlags
        (decide (rotated k (s.memRead s.hl) = 0)) false false
        (out k (s.memRead s.hl))).setCycles 16))

/-- `BIT b,x` sets Z when the bit is 0, clears N, sets H, keeps C and writes no operand; `RES b,x` and
`SET b,x` clear or set that bit of their operand, leave its other bits, and write no flag (R190 to
R195). -/
def Obligations.BitResAndSet : Prop :=
  ∀ (s : State) (b : Idx3),
    let tested : Byte → Nat → Result := fun v cycles =>
      .next ((s.setFlags (decide (v.toNat / 2 ^ b.val % 2 = 0)) false true s.flagC).setCycles cycles)
    let written : Bool → Byte → Byte := fun value v =>
      BitVec.ofFnLE fun j : Fin 8 => if j.val = b.val then value else v.getLsbD j
    (∀ r, exec (Form.bit b (.reg r)).instr s = tested (s.getReg r) 8) ∧
    exec (Form.bit b .atHL).instr s = tested (s.memRead s.hl) 12 ∧
    (∀ r, exec (Form.res b (.reg r)).instr s =
      .next ((s.setReg r (written false (s.getReg r))).setCycles 8)) ∧
    exec (Form.res b .atHL).instr s =
      .next ((s.memWrite s.hl (written false (s.memRead s.hl))).setCycles 16) ∧
    (∀ r, exec (Form.set b (.reg r)).instr s =
      .next ((s.setReg r (written true (s.getReg r))).setCycles 8)) ∧
    exec (Form.set b .atHL).instr s =
      .next ((s.memWrite s.hl (written true (s.memRead s.hl))).setCycles 16)

/-! ### Control transfer -/

/-- The jumps (R200 to R204, R99; decision D37; costs R348): the condition reads one flag, a relative
target is the address after the instruction plus the signed displacement modulo 65536, and a jump not
taken only costs less. -/
def Obligations.Jumps : Prop :=
  ∀ s : State,
    let relative : Byte → Word := fun e =>
      BitVec.ofInt 16 (s.pc.toNat + (if e.toNat < 128 then e.toNat else e.toNat - 256 : Int))
    let taken : Cond → Bool := fun cc =>
      match cc with
      | .nz => !s.regs.f.getLsbD 7
      | .z => s.regs.f.getLsbD 7
      | .nc => !s.regs.f.getLsbD 4
      | .c => s.regs.f.getLsbD 4
    (∀ nn, exec (Form.jp nn).instr s = .next ((s.setPc nn).setCycles 16)) ∧
    exec Form.jpHL.instr s = .next ((s.setPc s.hl).setCycles 4) ∧
    (∀ e, exec (Form.jr e).instr s = .next ((s.setPc (relative e)).setCycles 12)) ∧
    (∀ cc nn, exec (Form.jpCc cc nn).instr s =
      if taken cc then .next ((s.setPc nn).setCycles 16) else .next (s.setCycles 12)) ∧
    (∀ cc e, exec (Form.jrCc cc e).instr s =
      if taken cc then .next ((s.setPc (relative e)).setCycles 12) else .next (s.setCycles 8))

/-- The calls, `RST` and the returns (R205 to R210; RETI's Set is decision D13): a call stores the address
after the instruction, high byte at SP - 1 and then low byte at SP - 2, and leaves SP two lower and PC
at the target; a return takes PC from the word at SP, low byte first, and leaves SP two higher; RETI
sets IME at once; one not taken only costs. -/
def Obligations.CallsRestartsAndReturns : Prop :=
  ∀ s : State,
    let call : Word → Nat → Result := fun dest cycles =>
      .next (((((s.memWrite (s.sp - 1) (s.pc.extractLsb' 8 8)).memWrite (s.sp - 2)
        (s.pc.extractLsb' 0 8)).setSp (s.sp - 2)).setPc dest).setCycles cycles)
    let back : State := (s.setPc (s.memRead (s.sp + 1) ++ s.memRead s.sp)).setSp (s.sp + 2)
    (∀ nn, exec (Form.call nn).instr s = call nn 24) ∧
    (∀ cc nn, exec (Form.callCc cc nn).instr s =
      if s.holds cc then call nn 24 else .next (s.setCycles 12)) ∧
    (∀ t, exec (Form.rst t).instr s = call (BitVec.ofNat 16 (8 * t.val)) 16) ∧
    exec Form.ret.instr s = .next (back.setCycles 16) ∧
    (∀ cc, exec (Form.retCc cc).instr s =
      if s.holds cc then .next (back.setCycles 20) else .next (s.setCycles 8)) ∧
    exec Form.reti.instr s = .next ((back.setIme .set).setCycles 16)

/-! ### System instructions -/

/-- `NOP`, `DI`, `EI`, `STOP` and the prefix byte (R220 to R222, R225, R226; decisions D12, D18, D34,
D37): EI moves IME only from a state that is not pending, STOP consults nothing, and the prefix runs
the extended table's row for its second byte. -/
def Obligations.NopDiEiStopAndThePrefix : Prop :=
  ∀ s : State,
    exec .nop s = .next (s.setCycles 4) ∧
    exec .di s = .next ((s.setIme .unset).setCycles 4) ∧
    exec .ei s = .next ((s.setIme (
      if s.ime = .unset ∨ (s.ime = .set ∧ s.cfg.eiFromSet = .restart) then .pendingNewInstruction
      else s.ime)).setCycles 4) ∧
    (∀ pad, exec (.stop pad) s = .next ((s.setStopped true).setCycles 4)) ∧
    (∀ op2, exec (.cb op2) s = exec (decodeCb op2).instr s ∧
      (∀ b2, decodeBytes 0xCB op2 b2 = (decodeCb op2).instr) ∧
      ∃ t, exec (.cb op2) s = .next t)

/-- `HALT` (R224, R305; decision D16): with IME Set it halts; with IME not Set it faults under the
default policy, and under sm83 it halts if no request is pending and enabled and sets haltBug if one
is. -/
def Obligations.HaltByImeAndPolicy : Prop :=
  ∀ s : State,
    (s.ime = .set → exec .halt s = .next ((s.setHalted true).setCycles 4)) ∧
    (s.ime ≠ .set → s.cfg.haltPolicy = .fault → exec .halt s = .fault .haltImeNotSet) ∧
    (s.ime ≠ .set → s.cfg.haltPolicy = .sm83 → s.ie &&& s.ifl &&& 0x1F = 0 →
      exec .halt s = .next ((s.setHalted true).setCycles 4)) ∧
    (s.ime ≠ .set → s.cfg.haltPolicy = .sm83 → s.ie &&& s.ifl &&& 0x1F ≠ 0 →
      exec .halt s = .next ((s.setHaltBug true).setCycles 4))

/-! ### All instructions -/

/-- Every instruction has total defined behaviour (R297; the faults are decisions D4, D16): it
answers a next state, but for an illegal byte and for HALT with IME not Set under the fault policy;
nothing is ever refused, and a core that is halted or stopped never faults. -/
def Obligations.OnlyIllegalBytesAndHaltStop : Prop :=
  (∀ (i : Instr) (s : State),
    (∃ t, exec i s = .next t) ∨
    (∃ op, i = .illegal op ∧ exec i s = .fault .illegalOpcode) ∨
    (i = .halt ∧ s.ime ≠ .set ∧ s.cfg.haltPolicy = .fault ∧
      exec i s = .fault .haltImeNotSet)) ∧
  (∀ (s : State) (r : Refusal), step s ≠ .refused r) ∧
  (∀ (s : State) (r : Fault), step s = .fault r → s.halted = false ∧ s.stopped = false)

/-- The flags each instruction writes are those of the table of R26, POP AF writing them whole (R26,
R267). POP AF clears the low nibble of F; that every other instruction leaves it as it was, in every
state, is read from R10 by inference (log 9). -/
def Obligations.FlagsFrame : Prop :=
  ∀ (i : Instr) (s t : State), exec i s = .next t →
    i.effect.flagRow.z.allows s.flagZ t.flagZ ∧
    i.effect.flagRow.n.allows s.flagN t.flagN ∧
    i.effect.flagRow.h.allows s.flagH t.flagH ∧
    i.effect.flagRow.c.allows s.flagC t.flagC ∧
    t.regs.f &&& 0x0F = (if i.effect = .pop .af then 0 else s.regs.f &&& 0x0F)

/-- No instruction writes a data register but its destination (and HL, where its addressing moves it);
SP and PC are written only by the instructions that say so (R21, R24, R25). -/
def Obligations.RegistersFrame : Prop :=
  ∀ (i : Instr) (s t : State), exec i s = .next t →
    (∀ r, r ∉ i.effect.destRegs → t.getReg r = s.getReg r) ∧
    (i.effect.writesSp = false → t.sp = s.sp) ∧
    (i.effect.transfers = false → t.pc = s.pc)

/-- Every byte reads after an instruction as before it, except the bytes at the addresses the
instruction stores to (R54, R230, R260). -/
def Obligations.MemoryFrame : Prop :=
  ∀ (i : Instr) (s t : State), exec i s = .next t →
    ∀ a, (∀ x ∈ s.storedAt i.effect, ¬ SameByte a x) → t.memRead a = s.memRead a

/-- What no read shows (R39): halted and haltBug change by HALT alone, stopped by STOP alone, divAcc only
by a store to 0xFF04, which clears it; DIV, timaAcc, the joypad's stored low nibble, the parameters
and the host's inputs never change inside an instruction. -/
def Obligations.HiddenStateFrame : Prop :=
  ∀ (i : Instr) (s t : State), exec i s = .next t →
    (i ≠ .halt → t.halted = s.halted ∧ t.haltBug = s.haltBug) ∧
    ((∀ pad, i ≠ .stop pad) → t.stopped = s.stopped) ∧
    t.timer.divAcc = (if 0xFF04 ∈ s.storedAt i.effect then 0 else s.timer.divAcc) ∧
    t.timer.div = s.timer.div ∧ t.timer.timaAcc = s.timer.timaAcc ∧
    t.joyp &&& 0x0F = s.joyp &&& 0x0F ∧ t.cfg = s.cfg ∧ t.host = s.host

/-- The cost each instruction returns is the one of the cycle table, by its form, its operand and, for
the conditional transfers, whether the condition held; it is a multiple of 4 from 4 to 24 (R347, R348;
decision D3). -/
def Obligations.CyclesFollowTheTable : Prop :=
  ∀ (i : Instr) (s t : State), exec i s = .next t →
    t.cycles = s.cost i.effect ∧ t.cycles % 4 = 0 ∧ 4 ≤ t.cycles ∧ t.cycles ≤ 24

/-! ### Reset and the invariant -/

/-- The machine after power-on (R45, R331; the device values are decision D24): every register and
device zero, IME Unset, running, with the given parameters, memory contents and host. The reset state
is that with the default parameters of R8, a memory that lists nothing (log 1) and a quiet host
(log 5). -/
def Obligations.PowerOnValues : Prop :=
  (∀ (cfg : Config) (image : Memory) (host : List HostInput),
    State.powerOn cfg image host =
      { regs := { a := 0, f := 0, b := 0, c := 0, d := 0, e := 0, h := 0, l := 0 },
        sp := 0, pc := 0, ime := .unset, halted := false, stopped := false, haltBug := false,
        timer := { div := 0, divAcc := 0, tima := 0, timaAcc := 0, tma := 0, tac := 0 },
        ifl := 0, ie := 0, joyp := 0, mem := image, cycles := 0, cfg := cfg, host := host }) ∧
  State.reset = State.powerOn
    { haltPolicy := .fault, daaVariant := .sm83, eiFromSet := .restart, timaAcc := .frozen,
      ioStub := [] } [] []

/-- The invariant holds at power-on, with any parameters, any memory contents in canonical form and any
host, and so after reset (R331, R22). -/
def Obligations.InvariantAtPowerOn : Prop :=
  (∀ (cfg : Config) (image : Memory) (host : List HostInput), image.wf →
    (State.powerOn cfg image host).Inv) ∧
  State.reset.Inv

/-- Every step keeps the invariant, under any parameters and any host (R22, R34, R33, R287, R303). -/
def Obligations.EveryStepKeepsTheInvariant : Prop :=
  ∀ s t : State, s.Inv → step s = .next t → t.Inv

/-- Every instruction completes (R297, `93_implementation_defined.md` section 1; the exceptions are
decisions D4 and D16): `exec` answers a next state for every instruction but an illegal byte, in every
state and with every operand, HALT where IME is Set or the policy is `sm83`. -/
def Obligations.EveryInstructionCompletes : Prop :=
  ∀ (i : Instr) (s : State),
    (∀ op, i ≠ .illegal op) →
    (i = .halt → s.ime = .set ∨ s.cfg.haltPolicy = .sm83) →
    ∃ t, exec i s = .next t
end

