-- ==== Sys2Proof/Laws/Decode.lean ====
section
/-!
SUPPORT. Instructions and forms are the same catalogue: the two translations are inverse.
-/

namespace Sys2Proof

@[simp] theorem instr_form (i : Instr) : i.form.instr = i := by
  cases i <;> rfl

@[simp] theorem form_instr (f : Form) : f.instr.form = f := by
  cases f
  case ldRR dst src => cases dst <;> cases src <;> rfl
  case ldRM dst => cases dst <;> rfl
  case ldMR src => cases src <;> rfl
  case ldRN dst n => cases dst <;> rfl
  case ldAInd i => cases i <;> rfl
  case ldIndA i => cases i <;> rfl
  case ldR16 p nn => cases p <;> rfl
  case push p => cases p <;> rfl
  case pop p => cases p <;> rfl
  case alu k o => rcases o with r | _ <;> (try cases r) <;> cases k <;> rfl
  case aluN k n => cases k <;> rfl
  case inc8 o => rcases o with r | _ <;> (try cases r) <;> rfl
  case dec8 o => rcases o with r | _ <;> (try cases r) <;> rfl
  case addHL p => cases p <;> rfl
  case incR16 p => cases p <;> rfl
  case decR16 p => cases p <;> rfl
  case rot k o => rcases o with r | _ <;> (try cases r) <;> cases k <;> rfl
  case bit b o => rcases o with r | _ <;> (try cases r) <;> cases b <;> rfl
  case res b o => rcases o with r | _ <;> (try cases r) <;> cases b <;> rfl
  case set b o => rcases o with r | _ <;> (try cases r) <;> cases b <;> rfl
  case jpCc cc nn => cases cc <;> rfl
  case jrCc cc e => cases cc <;> rfl
  case callCc cc nn => cases cc <;> rfl
  case retCc cc => cases cc <;> rfl
  case rst t => cases t <;> rfl
  all_goals rfl

theorem Form.instr_injective : Function.Injective Form.instr :=
  Function.LeftInverse.injective form_instr

theorem Form.instr_surjective (i : Instr) : ∃ f : Form, f.instr = i := ⟨i.form, instr_form i⟩

/-- The decoder of bytes is the decoder of forms (R92). -/
@[simp] theorem decodeBytes_form (b0 b1 b2 : Byte) :
    (decodeBytes b0 b1 b2).form = decodeForm b0 b1 b2 := form_instr _

/-- A second byte of the extended table selects a rotate, BIT, RES or SET (R107). -/
theorem decodeCb_cases (op2 : Byte) :
    (∃ k o, decodeCb op2 = .rot k o) ∨ (∃ b o, decodeCb op2 = .bit b o) ∨
    (∃ b o, decodeCb op2 = .res b o) ∨ (∃ b o, decodeCb op2 = .set b o) := by
  simp only [decodeCb]
  split
  · exact .inl ⟨_, _, rfl⟩
  · exact .inr (.inl ⟨_, _, rfl⟩)
  · exact .inr (.inr (.inl ⟨_, _, rfl⟩))
  · exact .inr (.inr (.inr ⟨_, _, rfl⟩))

end Sys2Proof
end

