-- ==== Sys2Proof/Laws/State.lean ====
section
/-!
SUPPORT. One lemma per field per update, so that no proof unfolds a record update.
-/

namespace Sys2Proof.Machine

/-! ### The updates of one field -/

@[simp] theorem State.setRegs_regs (s : State) (v : Regs) : (s.setRegs v).regs = v := rfl
@[simp] theorem State.setRegs_sp (s : State) (v : Regs) : (s.setRegs v).sp = s.sp := rfl
@[simp] theorem State.setRegs_pc (s : State) (v : Regs) : (s.setRegs v).pc = s.pc := rfl
@[simp] theorem State.setRegs_ime (s : State) (v : Regs) : (s.setRegs v).ime = s.ime := rfl
@[simp] theorem State.setRegs_halted (s : State) (v : Regs) : (s.setRegs v).halted = s.halted := rfl
@[simp] theorem State.setRegs_stopped (s : State) (v : Regs) : (s.setRegs v).stopped = s.stopped := rfl
@[simp] theorem State.setRegs_haltBug (s : State) (v : Regs) : (s.setRegs v).haltBug = s.haltBug := rfl
@[simp] theorem State.setRegs_timer (s : State) (v : Regs) : (s.setRegs v).timer = s.timer := rfl
@[simp] theorem State.setRegs_ifl (s : State) (v : Regs) : (s.setRegs v).ifl = s.ifl := rfl
@[simp] theorem State.setRegs_ie (s : State) (v : Regs) : (s.setRegs v).ie = s.ie := rfl
@[simp] theorem State.setRegs_joyp (s : State) (v : Regs) : (s.setRegs v).joyp = s.joyp := rfl
@[simp] theorem State.setRegs_mem (s : State) (v : Regs) : (s.setRegs v).mem = s.mem := rfl
@[simp] theorem State.setRegs_cycles (s : State) (v : Regs) : (s.setRegs v).cycles = s.cycles := rfl
@[simp] theorem State.setRegs_cfg (s : State) (v : Regs) : (s.setRegs v).cfg = s.cfg := rfl
@[simp] theorem State.setRegs_host (s : State) (v : Regs) : (s.setRegs v).host = s.host := rfl

@[simp] theorem State.setSp_regs (s : State) (v : Word) : (s.setSp v).regs = s.regs := rfl
@[simp] theorem State.setSp_sp (s : State) (v : Word) : (s.setSp v).sp = v := rfl
@[simp] theorem State.setSp_pc (s : State) (v : Word) : (s.setSp v).pc = s.pc := rfl
@[simp] theorem State.setSp_ime (s : State) (v : Word) : (s.setSp v).ime = s.ime := rfl
@[simp] theorem State.setSp_halted (s : State) (v : Word) : (s.setSp v).halted = s.halted := rfl
@[simp] theorem State.setSp_stopped (s : State) (v : Word) : (s.setSp v).stopped = s.stopped := rfl
@[simp] theorem State.setSp_haltBug (s : State) (v : Word) : (s.setSp v).haltBug = s.haltBug := rfl
@[simp] theorem State.setSp_timer (s : State) (v : Word) : (s.setSp v).timer = s.timer := rfl
@[simp] theorem State.setSp_ifl (s : State) (v : Word) : (s.setSp v).ifl = s.ifl := rfl
@[simp] theorem State.setSp_ie (s : State) (v : Word) : (s.setSp v).ie = s.ie := rfl
@[simp] theorem State.setSp_joyp (s : State) (v : Word) : (s.setSp v).joyp = s.joyp := rfl
@[simp] theorem State.setSp_mem (s : State) (v : Word) : (s.setSp v).mem = s.mem := rfl
@[simp] theorem State.setSp_cycles (s : State) (v : Word) : (s.setSp v).cycles = s.cycles := rfl
@[simp] theorem State.setSp_cfg (s : State) (v : Word) : (s.setSp v).cfg = s.cfg := rfl
@[simp] theorem State.setSp_host (s : State) (v : Word) : (s.setSp v).host = s.host := rfl

@[simp] theorem State.setPc_regs (s : State) (v : Word) : (s.setPc v).regs = s.regs := rfl
@[simp] theorem State.setPc_sp (s : State) (v : Word) : (s.setPc v).sp = s.sp := rfl
@[simp] theorem State.setPc_pc (s : State) (v : Word) : (s.setPc v).pc = v := rfl
@[simp] theorem State.setPc_ime (s : State) (v : Word) : (s.setPc v).ime = s.ime := rfl
@[simp] theorem State.setPc_halted (s : State) (v : Word) : (s.setPc v).halted = s.halted := rfl
@[simp] theorem State.setPc_stopped (s : State) (v : Word) : (s.setPc v).stopped = s.stopped := rfl
@[simp] theorem State.setPc_haltBug (s : State) (v : Word) : (s.setPc v).haltBug = s.haltBug := rfl
@[simp] theorem State.setPc_timer (s : State) (v : Word) : (s.setPc v).timer = s.timer := rfl
@[simp] theorem State.setPc_ifl (s : State) (v : Word) : (s.setPc v).ifl = s.ifl := rfl
@[simp] theorem State.setPc_ie (s : State) (v : Word) : (s.setPc v).ie = s.ie := rfl
@[simp] theorem State.setPc_joyp (s : State) (v : Word) : (s.setPc v).joyp = s.joyp := rfl
@[simp] theorem State.setPc_mem (s : State) (v : Word) : (s.setPc v).mem = s.mem := rfl
@[simp] theorem State.setPc_cycles (s : State) (v : Word) : (s.setPc v).cycles = s.cycles := rfl
@[simp] theorem State.setPc_cfg (s : State) (v : Word) : (s.setPc v).cfg = s.cfg := rfl
@[simp] theorem State.setPc_host (s : State) (v : Word) : (s.setPc v).host = s.host := rfl

@[simp] theorem State.setIme_regs (s : State) (v : Ime) : (s.setIme v).regs = s.regs := rfl
@[simp] theorem State.setIme_sp (s : State) (v : Ime) : (s.setIme v).sp = s.sp := rfl
@[simp] theorem State.setIme_pc (s : State) (v : Ime) : (s.setIme v).pc = s.pc := rfl
@[simp] theorem State.setIme_ime (s : State) (v : Ime) : (s.setIme v).ime = v := rfl
@[simp] theorem State.setIme_halted (s : State) (v : Ime) : (s.setIme v).halted = s.halted := rfl
@[simp] theorem State.setIme_stopped (s : State) (v : Ime) : (s.setIme v).stopped = s.stopped := rfl
@[simp] theorem State.setIme_haltBug (s : State) (v : Ime) : (s.setIme v).haltBug = s.haltBug := rfl
@[simp] theorem State.setIme_timer (s : State) (v : Ime) : (s.setIme v).timer = s.timer := rfl
@[simp] theorem State.setIme_ifl (s : State) (v : Ime) : (s.setIme v).ifl = s.ifl := rfl
@[simp] theorem State.setIme_ie (s : State) (v : Ime) : (s.setIme v).ie = s.ie := rfl
@[simp] theorem State.setIme_joyp (s : State) (v : Ime) : (s.setIme v).joyp = s.joyp := rfl
@[simp] theorem State.setIme_mem (s : State) (v : Ime) : (s.setIme v).mem = s.mem := rfl
@[simp] theorem State.setIme_cycles (s : State) (v : Ime) : (s.setIme v).cycles = s.cycles := rfl
@[simp] theorem State.setIme_cfg (s : State) (v : Ime) : (s.setIme v).cfg = s.cfg := rfl
@[simp] theorem State.setIme_host (s : State) (v : Ime) : (s.setIme v).host = s.host := rfl

@[simp] theorem State.setHalted_regs (s : State) (v : Bool) : (s.setHalted v).regs = s.regs := rfl
@[simp] theorem State.setHalted_sp (s : State) (v : Bool) : (s.setHalted v).sp = s.sp := rfl
@[simp] theorem State.setHalted_pc (s : State) (v : Bool) : (s.setHalted v).pc = s.pc := rfl
@[simp] theorem State.setHalted_ime (s : State) (v : Bool) : (s.setHalted v).ime = s.ime := rfl
@[simp] theorem State.setHalted_halted (s : State) (v : Bool) : (s.setHalted v).halted = v := rfl
@[simp] theorem State.setHalted_stopped (s : State) (v : Bool) : (s.setHalted v).stopped = s.stopped := rfl
@[simp] theorem State.setHalted_haltBug (s : State) (v : Bool) : (s.setHalted v).haltBug = s.haltBug := rfl
@[simp] theorem State.setHalted_timer (s : State) (v : Bool) : (s.setHalted v).timer = s.timer := rfl
@[simp] theorem State.setHalted_ifl (s : State) (v : Bool) : (s.setHalted v).ifl = s.ifl := rfl
@[simp] theorem State.setHalted_ie (s : State) (v : Bool) : (s.setHalted v).ie = s.ie := rfl
@[simp] theorem State.setHalted_joyp (s : State) (v : Bool) : (s.setHalted v).joyp = s.joyp := rfl
@[simp] theorem State.setHalted_mem (s : State) (v : Bool) : (s.setHalted v).mem = s.mem := rfl
@[simp] theorem State.setHalted_cycles (s : State) (v : Bool) : (s.setHalted v).cycles = s.cycles := rfl
@[simp] theorem State.setHalted_cfg (s : State) (v : Bool) : (s.setHalted v).cfg = s.cfg := rfl
@[simp] theorem State.setHalted_host (s : State) (v : Bool) : (s.setHalted v).host = s.host := rfl

@[simp] theorem State.setStopped_regs (s : State) (v : Bool) : (s.setStopped v).regs = s.regs := rfl
@[simp] theorem State.setStopped_sp (s : State) (v : Bool) : (s.setStopped v).sp = s.sp := rfl
@[simp] theorem State.setStopped_pc (s : State) (v : Bool) : (s.setStopped v).pc = s.pc := rfl
@[simp] theorem State.setStopped_ime (s : State) (v : Bool) : (s.setStopped v).ime = s.ime := rfl
@[simp] theorem State.setStopped_halted (s : State) (v : Bool) : (s.setStopped v).halted = s.halted := rfl
@[simp] theorem State.setStopped_stopped (s : State) (v : Bool) : (s.setStopped v).stopped = v := rfl
@[simp] theorem State.setStopped_haltBug (s : State) (v : Bool) : (s.setStopped v).haltBug = s.haltBug := rfl
@[simp] theorem State.setStopped_timer (s : State) (v : Bool) : (s.setStopped v).timer = s.timer := rfl
@[simp] theorem State.setStopped_ifl (s : State) (v : Bool) : (s.setStopped v).ifl = s.ifl := rfl
@[simp] theorem State.setStopped_ie (s : State) (v : Bool) : (s.setStopped v).ie = s.ie := rfl
@[simp] theorem State.setStopped_joyp (s : State) (v : Bool) : (s.setStopped v).joyp = s.joyp := rfl
@[simp] theorem State.setStopped_mem (s : State) (v : Bool) : (s.setStopped v).mem = s.mem := rfl
@[simp] theorem State.setStopped_cycles (s : State) (v : Bool) : (s.setStopped v).cycles = s.cycles := rfl
@[simp] theorem State.setStopped_cfg (s : State) (v : Bool) : (s.setStopped v).cfg = s.cfg := rfl
@[simp] theorem State.setStopped_host (s : State) (v : Bool) : (s.setStopped v).host = s.host := rfl

@[simp] theorem State.setHaltBug_regs (s : State) (v : Bool) : (s.setHaltBug v).regs = s.regs := rfl
@[simp] theorem State.setHaltBug_sp (s : State) (v : Bool) : (s.setHaltBug v).sp = s.sp := rfl
@[simp] theorem State.setHaltBug_pc (s : State) (v : Bool) : (s.setHaltBug v).pc = s.pc := rfl
@[simp] theorem State.setHaltBug_ime (s : State) (v : Bool) : (s.setHaltBug v).ime = s.ime := rfl
@[simp] theorem State.setHaltBug_halted (s : State) (v : Bool) : (s.setHaltBug v).halted = s.halted := rfl
@[simp] theorem State.setHaltBug_stopped (s : State) (v : Bool) : (s.setHaltBug v).stopped = s.stopped := rfl
@[simp] theorem State.setHaltBug_haltBug (s : State) (v : Bool) : (s.setHaltBug v).haltBug = v := rfl
@[simp] theorem State.setHaltBug_timer (s : State) (v : Bool) : (s.setHaltBug v).timer = s.timer := rfl
@[simp] theorem State.setHaltBug_ifl (s : State) (v : Bool) : (s.setHaltBug v).ifl = s.ifl := rfl
@[simp] theorem State.setHaltBug_ie (s : State) (v : Bool) : (s.setHaltBug v).ie = s.ie := rfl
@[simp] theorem State.setHaltBug_joyp (s : State) (v : Bool) : (s.setHaltBug v).joyp = s.joyp := rfl
@[simp] theorem State.setHaltBug_mem (s : State) (v : Bool) : (s.setHaltBug v).mem = s.mem := rfl
@[simp] theorem State.setHaltBug_cycles (s : State) (v : Bool) : (s.setHaltBug v).cycles = s.cycles := rfl
@[simp] theorem State.setHaltBug_cfg (s : State) (v : Bool) : (s.setHaltBug v).cfg = s.cfg := rfl
@[simp] theorem State.setHaltBug_host (s : State) (v : Bool) : (s.setHaltBug v).host = s.host := rfl

@[simp] theorem State.setTimer_regs (s : State) (v : Timer) : (s.setTimer v).regs = s.regs := rfl
@[simp] theorem State.setTimer_sp (s : State) (v : Timer) : (s.setTimer v).sp = s.sp := rfl
@[simp] theorem State.setTimer_pc (s : State) (v : Timer) : (s.setTimer v).pc = s.pc := rfl
@[simp] theorem State.setTimer_ime (s : State) (v : Timer) : (s.setTimer v).ime = s.ime := rfl
@[simp] theorem State.setTimer_halted (s : State) (v : Timer) : (s.setTimer v).halted = s.halted := rfl
@[simp] theorem State.setTimer_stopped (s : State) (v : Timer) : (s.setTimer v).stopped = s.stopped := rfl
@[simp] theorem State.setTimer_haltBug (s : State) (v : Timer) : (s.setTimer v).haltBug = s.haltBug := rfl
@[simp] theorem State.setTimer_timer (s : State) (v : Timer) : (s.setTimer v).timer = v := rfl
@[simp] theorem State.setTimer_ifl (s : State) (v : Timer) : (s.setTimer v).ifl = s.ifl := rfl
@[simp] theorem State.setTimer_ie (s : State) (v : Timer) : (s.setTimer v).ie = s.ie := rfl
@[simp] theorem State.setTimer_joyp (s : State) (v : Timer) : (s.setTimer v).joyp = s.joyp := rfl
@[simp] theorem State.setTimer_mem (s : State) (v : Timer) : (s.setTimer v).mem = s.mem := rfl
@[simp] theorem State.setTimer_cycles (s : State) (v : Timer) : (s.setTimer v).cycles = s.cycles := rfl
@[simp] theorem State.setTimer_cfg (s : State) (v : Timer) : (s.setTimer v).cfg = s.cfg := rfl
@[simp] theorem State.setTimer_host (s : State) (v : Timer) : (s.setTimer v).host = s.host := rfl

@[simp] theorem State.setIfl_regs (s : State) (v : Byte) : (s.setIfl v).regs = s.regs := rfl
@[simp] theorem State.setIfl_sp (s : State) (v : Byte) : (s.setIfl v).sp = s.sp := rfl
@[simp] theorem State.setIfl_pc (s : State) (v : Byte) : (s.setIfl v).pc = s.pc := rfl
@[simp] theorem State.setIfl_ime (s : State) (v : Byte) : (s.setIfl v).ime = s.ime := rfl
@[simp] theorem State.setIfl_halted (s : State) (v : Byte) : (s.setIfl v).halted = s.halted := rfl
@[simp] theorem State.setIfl_stopped (s : State) (v : Byte) : (s.setIfl v).stopped = s.stopped := rfl
@[simp] theorem State.setIfl_haltBug (s : State) (v : Byte) : (s.setIfl v).haltBug = s.haltBug := rfl
@[simp] theorem State.setIfl_timer (s : State) (v : Byte) : (s.setIfl v).timer = s.timer := rfl
@[simp] theorem State.setIfl_ifl (s : State) (v : Byte) : (s.setIfl v).ifl = v := rfl
@[simp] theorem State.setIfl_ie (s : State) (v : Byte) : (s.setIfl v).ie = s.ie := rfl
@[simp] theorem State.setIfl_joyp (s : State) (v : Byte) : (s.setIfl v).joyp = s.joyp := rfl
@[simp] theorem State.setIfl_mem (s : State) (v : Byte) : (s.setIfl v).mem = s.mem := rfl
@[simp] theorem State.setIfl_cycles (s : State) (v : Byte) : (s.setIfl v).cycles = s.cycles := rfl
@[simp] theorem State.setIfl_cfg (s : State) (v : Byte) : (s.setIfl v).cfg = s.cfg := rfl
@[simp] theorem State.setIfl_host (s : State) (v : Byte) : (s.setIfl v).host = s.host := rfl

@[simp] theorem State.setIe_regs (s : State) (v : Byte) : (s.setIe v).regs = s.regs := rfl
@[simp] theorem State.setIe_sp (s : State) (v : Byte) : (s.setIe v).sp = s.sp := rfl
@[simp] theorem State.setIe_pc (s : State) (v : Byte) : (s.setIe v).pc = s.pc := rfl
@[simp] theorem State.setIe_ime (s : State) (v : Byte) : (s.setIe v).ime = s.ime := rfl
@[simp] theorem State.setIe_halted (s : State) (v : Byte) : (s.setIe v).halted = s.halted := rfl
@[simp] theorem State.setIe_stopped (s : State) (v : Byte) : (s.setIe v).stopped = s.stopped := rfl
@[simp] theorem State.setIe_haltBug (s : State) (v : Byte) : (s.setIe v).haltBug = s.haltBug := rfl
@[simp] theorem State.setIe_timer (s : State) (v : Byte) : (s.setIe v).timer = s.timer := rfl
@[simp] theorem State.setIe_ifl (s : State) (v : Byte) : (s.setIe v).ifl = s.ifl := rfl
@[simp] theorem State.setIe_ie (s : State) (v : Byte) : (s.setIe v).ie = v := rfl
@[simp] theorem State.setIe_joyp (s : State) (v : Byte) : (s.setIe v).joyp = s.joyp := rfl
@[simp] theorem State.setIe_mem (s : State) (v : Byte) : (s.setIe v).mem = s.mem := rfl
@[simp] theorem State.setIe_cycles (s : State) (v : Byte) : (s.setIe v).cycles = s.cycles := rfl
@[simp] theorem State.setIe_cfg (s : State) (v : Byte) : (s.setIe v).cfg = s.cfg := rfl
@[simp] theorem State.setIe_host (s : State) (v : Byte) : (s.setIe v).host = s.host := rfl

@[simp] theorem State.setJoyp_regs (s : State) (v : Byte) : (s.setJoyp v).regs = s.regs := rfl
@[simp] theorem State.setJoyp_sp (s : State) (v : Byte) : (s.setJoyp v).sp = s.sp := rfl
@[simp] theorem State.setJoyp_pc (s : State) (v : Byte) : (s.setJoyp v).pc = s.pc := rfl
@[simp] theorem State.setJoyp_ime (s : State) (v : Byte) : (s.setJoyp v).ime = s.ime := rfl
@[simp] theorem State.setJoyp_halted (s : State) (v : Byte) : (s.setJoyp v).halted = s.halted := rfl
@[simp] theorem State.setJoyp_stopped (s : State) (v : Byte) : (s.setJoyp v).stopped = s.stopped := rfl
@[simp] theorem State.setJoyp_haltBug (s : State) (v : Byte) : (s.setJoyp v).haltBug = s.haltBug := rfl
@[simp] theorem State.setJoyp_timer (s : State) (v : Byte) : (s.setJoyp v).timer = s.timer := rfl
@[simp] theorem State.setJoyp_ifl (s : State) (v : Byte) : (s.setJoyp v).ifl = s.ifl := rfl
@[simp] theorem State.setJoyp_ie (s : State) (v : Byte) : (s.setJoyp v).ie = s.ie := rfl
@[simp] theorem State.setJoyp_joyp (s : State) (v : Byte) : (s.setJoyp v).joyp = v := rfl
@[simp] theorem State.setJoyp_mem (s : State) (v : Byte) : (s.setJoyp v).mem = s.mem := rfl
@[simp] theorem State.setJoyp_cycles (s : State) (v : Byte) : (s.setJoyp v).cycles = s.cycles := rfl
@[simp] theorem State.setJoyp_cfg (s : State) (v : Byte) : (s.setJoyp v).cfg = s.cfg := rfl
@[simp] theorem State.setJoyp_host (s : State) (v : Byte) : (s.setJoyp v).host = s.host := rfl

@[simp] theorem State.setMem_regs (s : State) (v : Memory) : (s.setMem v).regs = s.regs := rfl
@[simp] theorem State.setMem_sp (s : State) (v : Memory) : (s.setMem v).sp = s.sp := rfl
@[simp] theorem State.setMem_pc (s : State) (v : Memory) : (s.setMem v).pc = s.pc := rfl
@[simp] theorem State.setMem_ime (s : State) (v : Memory) : (s.setMem v).ime = s.ime := rfl
@[simp] theorem State.setMem_halted (s : State) (v : Memory) : (s.setMem v).halted = s.halted := rfl
@[simp] theorem State.setMem_stopped (s : State) (v : Memory) : (s.setMem v).stopped = s.stopped := rfl
@[simp] theorem State.setMem_haltBug (s : State) (v : Memory) : (s.setMem v).haltBug = s.haltBug := rfl
@[simp] theorem State.setMem_timer (s : State) (v : Memory) : (s.setMem v).timer = s.timer := rfl
@[simp] theorem State.setMem_ifl (s : State) (v : Memory) : (s.setMem v).ifl = s.ifl := rfl
@[simp] theorem State.setMem_ie (s : State) (v : Memory) : (s.setMem v).ie = s.ie := rfl
@[simp] theorem State.setMem_joyp (s : State) (v : Memory) : (s.setMem v).joyp = s.joyp := rfl
@[simp] theorem State.setMem_mem (s : State) (v : Memory) : (s.setMem v).mem = v := rfl
@[simp] theorem State.setMem_cycles (s : State) (v : Memory) : (s.setMem v).cycles = s.cycles := rfl
@[simp] theorem State.setMem_cfg (s : State) (v : Memory) : (s.setMem v).cfg = s.cfg := rfl
@[simp] theorem State.setMem_host (s : State) (v : Memory) : (s.setMem v).host = s.host := rfl

@[simp] theorem State.setCycles_regs (s : State) (v : Nat) : (s.setCycles v).regs = s.regs := rfl
@[simp] theorem State.setCycles_sp (s : State) (v : Nat) : (s.setCycles v).sp = s.sp := rfl
@[simp] theorem State.setCycles_pc (s : State) (v : Nat) : (s.setCycles v).pc = s.pc := rfl
@[simp] theorem State.setCycles_ime (s : State) (v : Nat) : (s.setCycles v).ime = s.ime := rfl
@[simp] theorem State.setCycles_halted (s : State) (v : Nat) : (s.setCycles v).halted = s.halted := rfl
@[simp] theorem State.setCycles_stopped (s : State) (v : Nat) : (s.setCycles v).stopped = s.stopped := rfl
@[simp] theorem State.setCycles_haltBug (s : State) (v : Nat) : (s.setCycles v).haltBug = s.haltBug := rfl
@[simp] theorem State.setCycles_timer (s : State) (v : Nat) : (s.setCycles v).timer = s.timer := rfl
@[simp] theorem State.setCycles_ifl (s : State) (v : Nat) : (s.setCycles v).ifl = s.ifl := rfl
@[simp] theorem State.setCycles_ie (s : State) (v : Nat) : (s.setCycles v).ie = s.ie := rfl
@[simp] theorem State.setCycles_joyp (s : State) (v : Nat) : (s.setCycles v).joyp = s.joyp := rfl
@[simp] theorem State.setCycles_mem (s : State) (v : Nat) : (s.setCycles v).mem = s.mem := rfl
@[simp] theorem State.setCycles_cycles (s : State) (v : Nat) : (s.setCycles v).cycles = v := rfl
@[simp] theorem State.setCycles_cfg (s : State) (v : Nat) : (s.setCycles v).cfg = s.cfg := rfl
@[simp] theorem State.setCycles_host (s : State) (v : Nat) : (s.setCycles v).host = s.host := rfl

@[simp] theorem State.setHost_regs (s : State) (v : List HostInput) : (s.setHost v).regs = s.regs := rfl
@[simp] theorem State.setHost_sp (s : State) (v : List HostInput) : (s.setHost v).sp = s.sp := rfl
@[simp] theorem State.setHost_pc (s : State) (v : List HostInput) : (s.setHost v).pc = s.pc := rfl
@[simp] theorem State.setHost_ime (s : State) (v : List HostInput) : (s.setHost v).ime = s.ime := rfl
@[simp] theorem State.setHost_halted (s : State) (v : List HostInput) : (s.setHost v).halted = s.halted := rfl
@[simp] theorem State.setHost_stopped (s : State) (v : List HostInput) : (s.setHost v).stopped = s.stopped := rfl
@[simp] theorem State.setHost_haltBug (s : State) (v : List HostInput) : (s.setHost v).haltBug = s.haltBug := rfl
@[simp] theorem State.setHost_timer (s : State) (v : List HostInput) : (s.setHost v).timer = s.timer := rfl
@[simp] theorem State.setHost_ifl (s : State) (v : List HostInput) : (s.setHost v).ifl = s.ifl := rfl
@[simp] theorem State.setHost_ie (s : State) (v : List HostInput) : (s.setHost v).ie = s.ie := rfl
@[simp] theorem State.setHost_joyp (s : State) (v : List HostInput) : (s.setHost v).joyp = s.joyp := rfl
@[simp] theorem State.setHost_mem (s : State) (v : List HostInput) : (s.setHost v).mem = s.mem := rfl
@[simp] theorem State.setHost_cycles (s : State) (v : List HostInput) : (s.setHost v).cycles = s.cycles := rfl
@[simp] theorem State.setHost_cfg (s : State) (v : List HostInput) : (s.setHost v).cfg = s.cfg := rfl
@[simp] theorem State.setHost_host (s : State) (v : List HostInput) : (s.setHost v).host = v := rfl

/-! ### The updates of the register file: every other field -/

@[simp] theorem State.setReg_sp (s : State) (r : Reg8) (v : Byte) : (s.setReg r v).sp = s.sp := rfl
@[simp] theorem State.setReg_pc (s : State) (r : Reg8) (v : Byte) : (s.setReg r v).pc = s.pc := rfl
@[simp] theorem State.setReg_ime (s : State) (r : Reg8) (v : Byte) : (s.setReg r v).ime = s.ime := rfl
@[simp] theorem State.setReg_halted (s : State) (r : Reg8) (v : Byte) : (s.setReg r v).halted = s.halted := rfl
@[simp] theorem State.setReg_stopped (s : State) (r : Reg8) (v : Byte) : (s.setReg r v).stopped = s.stopped := rfl
@[simp] theorem State.setReg_haltBug (s : State) (r : Reg8) (v : Byte) : (s.setReg r v).haltBug = s.haltBug := rfl
@[simp] theorem State.setReg_timer (s : State) (r : Reg8) (v : Byte) : (s.setReg r v).timer = s.timer := rfl
@[simp] theorem State.setReg_ifl (s : State) (r : Reg8) (v : Byte) : (s.setReg r v).ifl = s.ifl := rfl
@[simp] theorem State.setReg_ie (s : State) (r : Reg8) (v : Byte) : (s.setReg r v).ie = s.ie := rfl
@[simp] theorem State.setReg_joyp (s : State) (r : Reg8) (v : Byte) : (s.setReg r v).joyp = s.joyp := rfl
@[simp] theorem State.setReg_mem (s : State) (r : Reg8) (v : Byte) : (s.setReg r v).mem = s.mem := rfl
@[simp] theorem State.setReg_cycles (s : State) (r : Reg8) (v : Byte) : (s.setReg r v).cycles = s.cycles := rfl
@[simp] theorem State.setReg_cfg (s : State) (r : Reg8) (v : Byte) : (s.setReg r v).cfg = s.cfg := rfl
@[simp] theorem State.setReg_host (s : State) (r : Reg8) (v : Byte) : (s.setReg r v).host = s.host := rfl

@[simp] theorem State.setF_sp (s : State) (v : Byte) : (s.setF v).sp = s.sp := rfl
@[simp] theorem State.setF_pc (s : State) (v : Byte) : (s.setF v).pc = s.pc := rfl
@[simp] theorem State.setF_ime (s : State) (v : Byte) : (s.setF v).ime = s.ime := rfl
@[simp] theorem State.setF_halted (s : State) (v : Byte) : (s.setF v).halted = s.halted := rfl
@[simp] theorem State.setF_stopped (s : State) (v : Byte) : (s.setF v).stopped = s.stopped := rfl
@[simp] theorem State.setF_haltBug (s : State) (v : Byte) : (s.setF v).haltBug = s.haltBug := rfl
@[simp] theorem State.setF_timer (s : State) (v : Byte) : (s.setF v).timer = s.timer := rfl
@[simp] theorem State.setF_ifl (s : State) (v : Byte) : (s.setF v).ifl = s.ifl := rfl
@[simp] theorem State.setF_ie (s : State) (v : Byte) : (s.setF v).ie = s.ie := rfl
@[simp] theorem State.setF_joyp (s : State) (v : Byte) : (s.setF v).joyp = s.joyp := rfl
@[simp] theorem State.setF_mem (s : State) (v : Byte) : (s.setF v).mem = s.mem := rfl
@[simp] theorem State.setF_cycles (s : State) (v : Byte) : (s.setF v).cycles = s.cycles := rfl
@[simp] theorem State.setF_cfg (s : State) (v : Byte) : (s.setF v).cfg = s.cfg := rfl
@[simp] theorem State.setF_host (s : State) (v : Byte) : (s.setF v).host = s.host := rfl

@[simp] theorem State.setFlags_sp (s : State) (z n h c : Bool) : (s.setFlags z n h c).sp = s.sp := rfl
@[simp] theorem State.setFlags_pc (s : State) (z n h c : Bool) : (s.setFlags z n h c).pc = s.pc := rfl
@[simp] theorem State.setFlags_ime (s : State) (z n h c : Bool) : (s.setFlags z n h c).ime = s.ime := rfl
@[simp] theorem State.setFlags_halted (s : State) (z n h c : Bool) : (s.setFlags z n h c).halted = s.halted := rfl
@[simp] theorem State.setFlags_stopped (s : State) (z n h c : Bool) : (s.setFlags z n h c).stopped = s.stopped := rfl
@[simp] theorem State.setFlags_haltBug (s : State) (z n h c : Bool) : (s.setFlags z n h c).haltBug = s.haltBug := rfl
@[simp] theorem State.setFlags_timer (s : State) (z n h c : Bool) : (s.setFlags z n h c).timer = s.timer := rfl
@[simp] theorem State.setFlags_ifl (s : State) (z n h c : Bool) : (s.setFlags z n h c).ifl = s.ifl := rfl
@[simp] theorem State.setFlags_ie (s : State) (z n h c : Bool) : (s.setFlags z n h c).ie = s.ie := rfl
@[simp] theorem State.setFlags_joyp (s : State) (z n h c : Bool) : (s.setFlags z n h c).joyp = s.joyp := rfl
@[simp] theorem State.setFlags_mem (s : State) (z n h c : Bool) : (s.setFlags z n h c).mem = s.mem := rfl
@[simp] theorem State.setFlags_cycles (s : State) (z n h c : Bool) : (s.setFlags z n h c).cycles = s.cycles := rfl
@[simp] theorem State.setFlags_cfg (s : State) (z n h c : Bool) : (s.setFlags z n h c).cfg = s.cfg := rfl
@[simp] theorem State.setFlags_host (s : State) (z n h c : Bool) : (s.setFlags z n h c).host = s.host := rfl

@[simp] theorem State.setBc_sp (s : State) (v : Word) : (s.setBc v).sp = s.sp := rfl
@[simp] theorem State.setBc_pc (s : State) (v : Word) : (s.setBc v).pc = s.pc := rfl
@[simp] theorem State.setBc_ime (s : State) (v : Word) : (s.setBc v).ime = s.ime := rfl
@[simp] theorem State.setBc_halted (s : State) (v : Word) : (s.setBc v).halted = s.halted := rfl
@[simp] theorem State.setBc_stopped (s : State) (v : Word) : (s.setBc v).stopped = s.stopped := rfl
@[simp] theorem State.setBc_haltBug (s : State) (v : Word) : (s.setBc v).haltBug = s.haltBug := rfl
@[simp] theorem State.setBc_timer (s : State) (v : Word) : (s.setBc v).timer = s.timer := rfl
@[simp] theorem State.setBc_ifl (s : State) (v : Word) : (s.setBc v).ifl = s.ifl := rfl
@[simp] theorem State.setBc_ie (s : State) (v : Word) : (s.setBc v).ie = s.ie := rfl
@[simp] theorem State.setBc_joyp (s : State) (v : Word) : (s.setBc v).joyp = s.joyp := rfl
@[simp] theorem State.setBc_mem (s : State) (v : Word) : (s.setBc v).mem = s.mem := rfl
@[simp] theorem State.setBc_cycles (s : State) (v : Word) : (s.setBc v).cycles = s.cycles := rfl
@[simp] theorem State.setBc_cfg (s : State) (v : Word) : (s.setBc v).cfg = s.cfg := rfl
@[simp] theorem State.setBc_host (s : State) (v : Word) : (s.setBc v).host = s.host := rfl

@[simp] theorem State.setDe_sp (s : State) (v : Word) : (s.setDe v).sp = s.sp := rfl
@[simp] theorem State.setDe_pc (s : State) (v : Word) : (s.setDe v).pc = s.pc := rfl
@[simp] theorem State.setDe_ime (s : State) (v : Word) : (s.setDe v).ime = s.ime := rfl
@[simp] theorem State.setDe_halted (s : State) (v : Word) : (s.setDe v).halted = s.halted := rfl
@[simp] theorem State.setDe_stopped (s : State) (v : Word) : (s.setDe v).stopped = s.stopped := rfl
@[simp] theorem State.setDe_haltBug (s : State) (v : Word) : (s.setDe v).haltBug = s.haltBug := rfl
@[simp] theorem State.setDe_timer (s : State) (v : Word) : (s.setDe v).timer = s.timer := rfl
@[simp] theorem State.setDe_ifl (s : State) (v : Word) : (s.setDe v).ifl = s.ifl := rfl
@[simp] theorem State.setDe_ie (s : State) (v : Word) : (s.setDe v).ie = s.ie := rfl
@[simp] theorem State.setDe_joyp (s : State) (v : Word) : (s.setDe v).joyp = s.joyp := rfl
@[simp] theorem State.setDe_mem (s : State) (v : Word) : (s.setDe v).mem = s.mem := rfl
@[simp] theorem State.setDe_cycles (s : State) (v : Word) : (s.setDe v).cycles = s.cycles := rfl
@[simp] theorem State.setDe_cfg (s : State) (v : Word) : (s.setDe v).cfg = s.cfg := rfl
@[simp] theorem State.setDe_host (s : State) (v : Word) : (s.setDe v).host = s.host := rfl

@[simp] theorem State.setHl_sp (s : State) (v : Word) : (s.setHl v).sp = s.sp := rfl
@[simp] theorem State.setHl_pc (s : State) (v : Word) : (s.setHl v).pc = s.pc := rfl
@[simp] theorem State.setHl_ime (s : State) (v : Word) : (s.setHl v).ime = s.ime := rfl
@[simp] theorem State.setHl_halted (s : State) (v : Word) : (s.setHl v).halted = s.halted := rfl
@[simp] theorem State.setHl_stopped (s : State) (v : Word) : (s.setHl v).stopped = s.stopped := rfl
@[simp] theorem State.setHl_haltBug (s : State) (v : Word) : (s.setHl v).haltBug = s.haltBug := rfl
@[simp] theorem State.setHl_timer (s : State) (v : Word) : (s.setHl v).timer = s.timer := rfl
@[simp] theorem State.setHl_ifl (s : State) (v : Word) : (s.setHl v).ifl = s.ifl := rfl
@[simp] theorem State.setHl_ie (s : State) (v : Word) : (s.setHl v).ie = s.ie := rfl
@[simp] theorem State.setHl_joyp (s : State) (v : Word) : (s.setHl v).joyp = s.joyp := rfl
@[simp] theorem State.setHl_mem (s : State) (v : Word) : (s.setHl v).mem = s.mem := rfl
@[simp] theorem State.setHl_cycles (s : State) (v : Word) : (s.setHl v).cycles = s.cycles := rfl
@[simp] theorem State.setHl_cfg (s : State) (v : Word) : (s.setHl v).cfg = s.cfg := rfl
@[simp] theorem State.setHl_host (s : State) (v : Word) : (s.setHl v).host = s.host := rfl

@[simp] theorem State.setAf_sp (s : State) (v : Word) : (s.setAf v).sp = s.sp := rfl
@[simp] theorem State.setAf_pc (s : State) (v : Word) : (s.setAf v).pc = s.pc := rfl
@[simp] theorem State.setAf_ime (s : State) (v : Word) : (s.setAf v).ime = s.ime := rfl
@[simp] theorem State.setAf_halted (s : State) (v : Word) : (s.setAf v).halted = s.halted := rfl
@[simp] theorem State.setAf_stopped (s : State) (v : Word) : (s.setAf v).stopped = s.stopped := rfl
@[simp] theorem State.setAf_haltBug (s : State) (v : Word) : (s.setAf v).haltBug = s.haltBug := rfl
@[simp] theorem State.setAf_timer (s : State) (v : Word) : (s.setAf v).timer = s.timer := rfl
@[simp] theorem State.setAf_ifl (s : State) (v : Word) : (s.setAf v).ifl = s.ifl := rfl
@[simp] theorem State.setAf_ie (s : State) (v : Word) : (s.setAf v).ie = s.ie := rfl
@[simp] theorem State.setAf_joyp (s : State) (v : Word) : (s.setAf v).joyp = s.joyp := rfl
@[simp] theorem State.setAf_mem (s : State) (v : Word) : (s.setAf v).mem = s.mem := rfl
@[simp] theorem State.setAf_cycles (s : State) (v : Word) : (s.setAf v).cycles = s.cycles := rfl
@[simp] theorem State.setAf_cfg (s : State) (v : Word) : (s.setAf v).cfg = s.cfg := rfl
@[simp] theorem State.setAf_host (s : State) (v : Word) : (s.setAf v).host = s.host := rfl

@[simp] theorem State.putAlu_sp (s : State) (r : AluOut) : (s.putAlu r).sp = s.sp := rfl
@[simp] theorem State.putAlu_pc (s : State) (r : AluOut) : (s.putAlu r).pc = s.pc := rfl
@[simp] theorem State.putAlu_ime (s : State) (r : AluOut) : (s.putAlu r).ime = s.ime := rfl
@[simp] theorem State.putAlu_halted (s : State) (r : AluOut) : (s.putAlu r).halted = s.halted := rfl
@[simp] theorem State.putAlu_stopped (s : State) (r : AluOut) : (s.putAlu r).stopped = s.stopped := rfl
@[simp] theorem State.putAlu_haltBug (s : State) (r : AluOut) : (s.putAlu r).haltBug = s.haltBug := rfl
@[simp] theorem State.putAlu_timer (s : State) (r : AluOut) : (s.putAlu r).timer = s.timer := rfl
@[simp] theorem State.putAlu_ifl (s : State) (r : AluOut) : (s.putAlu r).ifl = s.ifl := rfl
@[simp] theorem State.putAlu_ie (s : State) (r : AluOut) : (s.putAlu r).ie = s.ie := rfl
@[simp] theorem State.putAlu_joyp (s : State) (r : AluOut) : (s.putAlu r).joyp = s.joyp := rfl
@[simp] theorem State.putAlu_mem (s : State) (r : AluOut) : (s.putAlu r).mem = s.mem := rfl
@[simp] theorem State.putAlu_cycles (s : State) (r : AluOut) : (s.putAlu r).cycles = s.cycles := rfl
@[simp] theorem State.putAlu_cfg (s : State) (r : AluOut) : (s.putAlu r).cfg = s.cfg := rfl
@[simp] theorem State.putAlu_host (s : State) (r : AluOut) : (s.putAlu r).host = s.host := rfl

/-! ### The register file itself -/

@[simp] theorem State.setReg_regs (s : State) (r : Reg8) (v : Byte) :
    (s.setReg r v).regs = s.regs.put r v := rfl

@[simp] theorem State.setF_regs (s : State) (v : Byte) :
    (s.setF v).regs = { s.regs with f := v } := rfl

@[simp] theorem State.setFlags_regs (s : State) (z n h c : Bool) :
    (s.setFlags z n h c).regs =
      { s.regs with f := (s.regs.f &&& 0x0F) ||| packFlags z n h c } := rfl

@[simp] theorem State.setBc_regs (s : State) (v : Word) :
    (s.setBc v).regs = { s.regs with b := hiByte v, c := loByte v } := rfl

@[simp] theorem State.setDe_regs (s : State) (v : Word) :
    (s.setDe v).regs = { s.regs with d := hiByte v, e := loByte v } := rfl

@[simp] theorem State.setHl_regs (s : State) (v : Word) :
    (s.setHl v).regs = { s.regs with h := hiByte v, l := loByte v } := rfl

@[simp] theorem State.setAf_regs (s : State) (v : Word) :
    (s.setAf v).regs = { s.regs with a := hiByte v, f := loByte v &&& 0xF0 } := rfl

/-! ### Power-on -/

@[simp] theorem State.powerOn_sp (g : Config) (m : Memory) (h : List HostInput) :
    (State.powerOn g m h).sp = 0 := rfl

@[simp] theorem State.powerOn_pc (g : Config) (m : Memory) (h : List HostInput) :
    (State.powerOn g m h).pc = 0 := rfl

@[simp] theorem State.powerOn_ime (g : Config) (m : Memory) (h : List HostInput) :
    (State.powerOn g m h).ime = .unset := rfl

@[simp] theorem State.powerOn_halted (g : Config) (m : Memory) (h : List HostInput) :
    (State.powerOn g m h).halted = false := rfl

@[simp] theorem State.powerOn_stopped (g : Config) (m : Memory) (h : List HostInput) :
    (State.powerOn g m h).stopped = false := rfl

@[simp] theorem State.powerOn_haltBug (g : Config) (m : Memory) (h : List HostInput) :
    (State.powerOn g m h).haltBug = false := rfl

@[simp] theorem State.powerOn_ifl (g : Config) (m : Memory) (h : List HostInput) :
    (State.powerOn g m h).ifl = 0 := rfl

@[simp] theorem State.powerOn_ie (g : Config) (m : Memory) (h : List HostInput) :
    (State.powerOn g m h).ie = 0 := rfl

@[simp] theorem State.powerOn_joyp (g : Config) (m : Memory) (h : List HostInput) :
    (State.powerOn g m h).joyp = 0 := rfl

@[simp] theorem State.powerOn_mem (g : Config) (m : Memory) (h : List HostInput) :
    (State.powerOn g m h).mem = m := rfl

@[simp] theorem State.powerOn_cycles (g : Config) (m : Memory) (h : List HostInput) :
    (State.powerOn g m h).cycles = 0 := rfl

@[simp] theorem State.powerOn_cfg (g : Config) (m : Memory) (h : List HostInput) :
    (State.powerOn g m h).cfg = g := rfl

@[simp] theorem State.powerOn_host (g : Config) (m : Memory) (h : List HostInput) :
    (State.powerOn g m h).host = h := rfl

end Sys2Proof.Machine
end

