-- ==== Sys2Proof/Laws/Registers.lean ====
section
/-!
SUPPORT. Bytes and words, the register file, the flags byte and the register pairs.
-/

namespace Sys2Proof

/-! ### Bytes and words -/

@[simp] theorem hiByte_joinBytes (h l : Byte) : hiByte (joinBytes h l) = h := by
  apply BitVec.eq_of_toNat_eq
  simp only [hiByte, joinBytes, BitVec.toNat_ofNat]
  omega

@[simp] theorem loByte_joinBytes (h l : Byte) : loByte (joinBytes h l) = l := by
  apply BitVec.eq_of_toNat_eq
  simp only [loByte, joinBytes, BitVec.toNat_ofNat]
  omega

@[simp] theorem joinBytes_hiByte_loByte (w : Word) : joinBytes (hiByte w) (loByte w) = w := by
  apply BitVec.eq_of_toNat_eq
  simp only [hiByte, loByte, joinBytes, BitVec.toNat_ofNat]
  omega

theorem incWord_eq (w : Word) : incWord w = w + 1 := by
  apply BitVec.eq_of_toNat_eq
  simp [incWord]

theorem decWord_eq (w : Word) : decWord w = w - 1 := by
  have h1 : BitVec.ofInt 16 (-1) = (-1 : Word) := by decide
  simp only [decWord, sub_eq_add_neg, BitVec.ofInt_add, h1]
  congr 1
  apply BitVec.eq_of_toNat_eq
  simp

@[simp] theorem incWord_decWord (w : Word) : incWord (decWord w) = w := by
  simp [incWord_eq, decWord_eq]

@[simp] theorem decWord_incWord (w : Word) : decWord (incWord w) = w := by
  simp [incWord_eq, decWord_eq]

theorem incWord_ne (w : Word) : incWord w ≠ w := by
  simp [incWord_eq]

theorem decWord_ne (w : Word) : decWord w ≠ w := by
  intro h
  exact incWord_ne (decWord w) (by rw [incWord_decWord]; exact h.symm)

namespace Machine

/-! ### Data registers -/

theorem Regs.get_put (g : Regs) (r q : Reg8) (v : Byte) :
    (g.put r v).get q = if q = r then v else g.get q := by
  cases r <;> cases q <;> rfl

@[simp] theorem Regs.get_put_self (g : Regs) (r : Reg8) (v : Byte) : (g.put r v).get r = v := by
  simp [Regs.get_put]

@[simp] theorem Regs.put_f (g : Regs) (r : Reg8) (v : Byte) : (g.put r v).f = g.f := by
  cases r <;> rfl

theorem State.getReg_setReg (s : State) (r q : Reg8) (v : Byte) :
    (s.setReg r v).getReg q = if q = r then v else s.getReg q :=
  Regs.get_put s.regs r q v

@[simp] theorem State.getReg_setF (s : State) (q : Reg8) (v : Byte) :
    (s.setF v).getReg q = s.getReg q := by
  cases q <;> rfl

@[simp] theorem State.getReg_setFlags (s : State) (q : Reg8) (z n h c : Bool) :
    (s.setFlags z n h c).getReg q = s.getReg q := by
  cases q <;> rfl

/-! ### Flags -/

/-- What the four flag reads return after the four flags are written. -/
@[simp] theorem State.flagZ_setFlags (s : State) (z n h c : Bool) :
    (s.setFlags z n h c).flagZ = z := by
  cases z <;> cases n <;> cases h <;> cases c <;> simp [State.flagZ, packFlags]

@[simp] theorem State.flagN_setFlags (s : State) (z n h c : Bool) :
    (s.setFlags z n h c).flagN = n := by
  cases z <;> cases n <;> cases h <;> cases c <;> simp [State.flagN, packFlags]

@[simp] theorem State.flagH_setFlags (s : State) (z n h c : Bool) :
    (s.setFlags z n h c).flagH = h := by
  cases z <;> cases n <;> cases h <;> cases c <;> simp [State.flagH, packFlags]

@[simp] theorem State.flagC_setFlags (s : State) (z n h c : Bool) :
    (s.setFlags z n h c).flagC = c := by
  cases z <;> cases n <;> cases h <;> cases c <;> simp [State.flagC, packFlags]

theorem packFlags_low (z n h c : Bool) : packFlags z n h c &&& 0x0F = 0 := by
  cases z <;> cases n <;> cases h <;> cases c <;> decide

/-- Writing the four flags leaves the low nibble of F alone (R10). -/
theorem State.low_setFlags (s : State) (z n h c : Bool) :
    (s.setFlags z n h c).regs.f &&& 0x0F = s.regs.f &&& 0x0F := by
  have h1 : (0x0F : Byte) &&& 0x0F = 0x0F := by decide
  rw [State.setFlags_regs, BitVec.and_or_distrib_right, packFlags_low, BitVec.and_assoc, h1]
  exact BitVec.or_zero

/-- Masking with 0xF0 leaves no low nibble (R22, R23). -/
theorem low_of_mask (v : Byte) : (v &&& 0xF0) &&& 0x0F = 0 := by
  have h1 : (0xF0 : Byte) &&& 0x0F = 0 := by decide
  rw [BitVec.and_assoc, h1]
  exact BitVec.and_zero

/-! ### Register pairs -/

@[simp] theorem State.bc_setBc (s : State) (v : Word) : (s.setBc v).bc = v := by simp [State.bc]
@[simp] theorem State.de_setDe (s : State) (v : Word) : (s.setDe v).de = v := by simp [State.de]
@[simp] theorem State.hl_setHl (s : State) (v : Word) : (s.setHl v).hl = v := by simp [State.hl]

/-- The read-back of AF: the low nibble of F is dropped (R23). -/
theorem State.af_setAf (s : State) (v : Word) :
    (s.setAf v).af = joinBytes (hiByte v) (loByte v &&& 0xF0) := rfl

theorem State.readPair_writePair (s : State) (p : Pair16) (v : Word) :
    (s.writePair p v).readPair p = v := by
  cases p <;> simp [State.writePair, State.readPair]

end Machine

end Sys2Proof
end

