-- ==== Sys2Proof/Laws/Memory.lean ====
section
/-!
SUPPORT. The storage arrays and the address-space dispatcher: read after write, every other byte
unchanged, the canonical form kept, and what a write can change in the state.
-/

namespace Sys2Proof.Machine

/-! ### The list of cells -/

theorem Memory.get_erase (m : Memory) (k j : Nat) :
    Memory.get (m.erase k) j = if j = k then Config.blankByte else m.get j := by
  induction m with
  | nil => simp [Memory.erase, Memory.get]
  | cons x rest ih =>
    simp only [Memory.erase] at ih ⊢
    by_cases hx : x.1 = k
    · simp only [List.filter_cons, hx, bne_self_eq_false, Bool.false_eq_true, if_false, ih,
        Memory.get]
      split
      · rfl
      · rw [if_neg (by omega)]
    · simp only [List.filter_cons, bne_iff_ne, ne_eq, hx, not_false_eq_true, if_true, Memory.get, ih]
      split
      · rw [if_neg (by omega)]
      · rfl

theorem Memory.get_insert (m : Memory) (k j : Nat) (v : Byte) (h : ∀ x ∈ m, x.1 ≠ k) :
    Memory.get (m.insert k v) j = if j = k then v else m.get j := by
  induction m with
  | nil => simp [Memory.insert, Memory.get, eq_comm]
  | cons x rest ih =>
    have hx : x.1 ≠ k := h x (by simp)
    have ih := ih (fun y hy => h y (by simp [hy]))
    simp only [Memory.insert]
    split
    · simp only [Memory.get, eq_comm (a := k)]
    · simp only [Memory.get, ih]
      split
      · rw [if_neg (by omega)]
      · rfl

theorem Memory.ne_of_mem_erase (m : Memory) (k : Nat) : ∀ x ∈ m.erase k, x.1 ≠ k := by
  simp [Memory.erase]

/-- Read after write (R68), and every other byte of storage unchanged (R54). -/
theorem Memory.get_set (m : Memory) (k j : Nat) (v : Byte) :
    Memory.get (m.set k v) j = if j = k then v else m.get j := by
  simp only [Memory.set]
  split
  · rename_i hv
    rw [Memory.get_erase, hv]
  · rw [Memory.get_insert _ _ _ _ (Memory.ne_of_mem_erase m k), Memory.get_erase]
    split <;> rfl

theorem Memory.mem_insert (m : Memory) (k : Nat) (v : Byte) (x : Host.Cell) :
    x ∈ m.insert k v ↔ x = (k, v) ∨ x ∈ m := by
  induction m with
  | nil => simp [Memory.insert]
  | cons y rest ih =>
    simp only [Memory.insert]
    split
    · simp
    · simp only [List.mem_cons, ih]
      tauto

theorem Memory.pairwise_insert (m : Memory) (k : Nat) (v : Byte)
    (hm : m.Pairwise (fun x y => x.1 < y.1)) (h : ∀ x ∈ m, x.1 ≠ k) :
    (m.insert k v).Pairwise (fun x y => x.1 < y.1) := by
  induction m with
  | nil => simp [Memory.insert]
  | cons y rest ih =>
    rw [List.pairwise_cons] at hm
    have hy : y.1 ≠ k := h y (by simp)
    simp only [Memory.insert]
    split
    · rename_i hk
      refine List.pairwise_cons.2 ⟨?_, List.pairwise_cons.2 hm⟩
      intro x hx
      rcases List.mem_cons.1 hx with rfl | hx
      · exact hk
      · exact Nat.lt_trans hk (hm.1 x hx)
    · refine List.pairwise_cons.2 ⟨?_, ih hm.2 (fun x hx => h x (by simp [hx]))⟩
      intro x hx
      rcases (Memory.mem_insert rest k v x).1 hx with rfl | hx
      · show y.1 < k
        omega
      · exact hm.1 x hx

theorem Memory.wf_nil : Memory.wf [] := ⟨List.Pairwise.nil, by simp⟩

/-- Every write to storage keeps the canonical form. -/
theorem Memory.wf_set (m : Memory) (k : Nat) (v : Byte) (hm : m.wf) (hk : isStorageAddress k) :
    (m.set k v).wf := by
  have he : (m.erase k).wf :=
    ⟨hm.1.filter _, fun x hx => hm.2 x (List.mem_of_mem_filter hx)⟩
  simp only [Memory.set]
  split
  · exact he
  · rename_i hv
    refine ⟨Memory.pairwise_insert _ k v he.1 (Memory.ne_of_mem_erase m k), fun x hx => ?_⟩
    rcases (Memory.mem_insert _ k v x).1 hx with rfl | hx
    · exact ⟨hk, hv⟩
    · exact he.2 x hx

/-! ### Which bytes an address selects -/

/-- The first and last address of each region (R52). -/
def Region.bounds : Region → Nat × Nat
  | .rom => (0x0000, 0x7FFF)
  | .videoRam => (0x8000, 0x9FFF)
  | .externalRam => (0xA000, 0xBFFF)
  | .workRam => (0xC000, 0xDFFF)
  | .echoRam => (0xE000, 0xFDFF)
  | .oam => (0xFE00, 0xFE9F)
  | .unusable => (0xFEA0, 0xFEFF)
  | .io => (0xFF00, 0xFF7F)
  | .highRam => (0xFF80, 0xFFFE)
  | .interruptEnable => (0xFFFF, 0xFFFF)

/-- An address is in the region `regionOf` gives it. -/
theorem regionOf_bounds (a : Word) :
    (regionOf a).bounds.1 ≤ a.toNat ∧ a.toNat ≤ (regionOf a).bounds.2 := by
  have ha := a.isLt
  simp only [regionOf]
  split_ifs <;> simp only [Region.bounds] <;> omega

theorem ioTarget_ne_storage (a : Word) (k : Nat) : ioTarget a ≠ .storage k := by
  simp only [ioTarget]
  split_ifs <;> simp

/-- A storage byte an address selects is one of the six arrays (R38, R52). -/
theorem target_storage (a : Word) (k : Nat) (h : target a = .storage k) : isStorageAddress k := by
  have hb := regionOf_bounds a
  simp only [isStorageAddress]
  simp only [target] at h
  split at h <;> rename_i hr <;> (try rw [hr] at hb) <;> simp only [Region.bounds] at hb
  all_goals first
    | exact absurd h (ioTarget_ne_storage a k)
    | (simp only [Target.storage.injEq, reduceCtorEq] at h <;> omega)

/-! ### Reads and writes -/

/-- A write changes no read of an address that selects something else (R54). -/
theorem State.memRead_memWrite_ne (s : State) (a b : Word) (v : Byte) (h : target b ≠ target a) :
    (s.memWrite a v).memRead b = s.memRead b := by
  simp only [State.memRead, State.memWrite]
  cases ha : target a <;> cases hb : target b <;> simp_all [Memory.get_set]

/-- A byte of storage keeps what is written to it (R55, R56, R68). -/
theorem State.memRead_memWrite_storage (s : State) (a b : Word) (v : Byte) (k : Nat)
    (ha : target a = .storage k) (hb : target b = .storage k) :
    (s.memWrite a v).memRead b = v := by
  simp [State.memRead, State.memWrite, ha, hb, Memory.get_set]

/-- A write keeps the canonical form of memory. -/
theorem State.wf_memWrite (s : State) (a : Word) (v : Byte) (h : s.mem.wf) :
    (s.memWrite a v).mem.wf := by
  simp only [State.memWrite]
  split <;> try exact h
  rename_i k hk
  exact Memory.wf_set s.mem k v h (target_storage a k hk)

/-! ### Updates that no read sees -/

@[simp] theorem State.memRead_setRegs (s : State) (v : Regs) (x : Word) :
    (s.setRegs v).memRead x = s.memRead x := rfl

@[simp] theorem State.memRead_setSp (s : State) (v : Word) (x : Word) :
    (s.setSp v).memRead x = s.memRead x := rfl

@[simp] theorem State.memRead_setPc (s : State) (v : Word) (x : Word) :
    (s.setPc v).memRead x = s.memRead x := rfl

@[simp] theorem State.memRead_setIme (s : State) (v : Ime) (x : Word) :
    (s.setIme v).memRead x = s.memRead x := rfl

@[simp] theorem State.memRead_setHalted (s : State) (v : Bool) (x : Word) :
    (s.setHalted v).memRead x = s.memRead x := rfl

@[simp] theorem State.memRead_setStopped (s : State) (v : Bool) (x : Word) :
    (s.setStopped v).memRead x = s.memRead x := rfl

@[simp] theorem State.memRead_setHaltBug (s : State) (v : Bool) (x : Word) :
    (s.setHaltBug v).memRead x = s.memRead x := rfl

@[simp] theorem State.memRead_setCycles (s : State) (v : Nat) (x : Word) :
    (s.setCycles v).memRead x = s.memRead x := rfl

@[simp] theorem State.memRead_setHost (s : State) (v : List HostInput) (x : Word) :
    (s.setHost v).memRead x = s.memRead x := rfl

@[simp] theorem State.memRead_setReg (s : State) (r : Reg8) (v : Byte) (x : Word) :
    (s.setReg r v).memRead x = s.memRead x := rfl

@[simp] theorem State.memRead_setF (s : State) (v : Byte) (x : Word) :
    (s.setF v).memRead x = s.memRead x := rfl

@[simp] theorem State.memRead_setFlags (s : State) (z n h c : Bool) (x : Word) :
    (s.setFlags z n h c).memRead x = s.memRead x := rfl

@[simp] theorem State.memRead_setBc (s : State) (v : Word) (x : Word) :
    (s.setBc v).memRead x = s.memRead x := rfl

@[simp] theorem State.memRead_setDe (s : State) (v : Word) (x : Word) :
    (s.setDe v).memRead x = s.memRead x := rfl

@[simp] theorem State.memRead_setHl (s : State) (v : Word) (x : Word) :
    (s.setHl v).memRead x = s.memRead x := rfl

@[simp] theorem State.memRead_setAf (s : State) (v : Word) (x : Word) :
    (s.setAf v).memRead x = s.memRead x := rfl

@[simp] theorem State.memRead_putAlu (s : State) (r : AluOut) (x : Word) :
    (s.putAlu r).memRead x = s.memRead x := rfl

/-! ### What a write leaves alone -/

@[simp] theorem State.memWrite_regs (s : State) (a : Word) (v : Byte) :
    (s.memWrite a v).regs = s.regs := by
  simp only [State.memWrite]; split <;> rfl

@[simp] theorem State.memWrite_sp (s : State) (a : Word) (v : Byte) :
    (s.memWrite a v).sp = s.sp := by
  simp only [State.memWrite]; split <;> rfl

@[simp] theorem State.memWrite_pc (s : State) (a : Word) (v : Byte) :
    (s.memWrite a v).pc = s.pc := by
  simp only [State.memWrite]; split <;> rfl

@[simp] theorem State.memWrite_ime (s : State) (a : Word) (v : Byte) :
    (s.memWrite a v).ime = s.ime := by
  simp only [State.memWrite]; split <;> rfl

@[simp] theorem State.memWrite_halted (s : State) (a : Word) (v : Byte) :
    (s.memWrite a v).halted = s.halted := by
  simp only [State.memWrite]; split <;> rfl

@[simp] theorem State.memWrite_stopped (s : State) (a : Word) (v : Byte) :
    (s.memWrite a v).stopped = s.stopped := by
  simp only [State.memWrite]; split <;> rfl

@[simp] theorem State.memWrite_haltBug (s : State) (a : Word) (v : Byte) :
    (s.memWrite a v).haltBug = s.haltBug := by
  simp only [State.memWrite]; split <;> rfl

@[simp] theorem State.memWrite_cycles (s : State) (a : Word) (v : Byte) :
    (s.memWrite a v).cycles = s.cycles := by
  simp only [State.memWrite]; split <;> rfl

@[simp] theorem State.memWrite_cfg (s : State) (a : Word) (v : Byte) :
    (s.memWrite a v).cfg = s.cfg := by
  simp only [State.memWrite]; split <;> rfl

@[simp] theorem State.memWrite_host (s : State) (a : Word) (v : Byte) :
    (s.memWrite a v).host = s.host := by
  simp only [State.memWrite]; split <;> rfl

/-- No write touches the counter's accumulator (R59, R60, R314). -/
@[simp] theorem State.memWrite_timaAcc (s : State) (a : Word) (v : Byte) :
    (s.memWrite a v).timer.timaAcc = s.timer.timaAcc := by
  simp only [State.memWrite]; split <;> rfl

/-- No write touches DIV (R59, C5). -/
@[simp] theorem State.memWrite_div (s : State) (a : Word) (v : Byte) :
    (s.memWrite a v).timer.div = s.timer.div := by
  simp only [State.memWrite]; split <;> rfl

/-- A write leaves the divider's accumulator or clears it (R59). -/
theorem State.memWrite_divAcc (s : State) (a : Word) (v : Byte) :
    (s.memWrite a v).timer.divAcc = if target a = .divider then 0 else s.timer.divAcc := by
  simp only [State.memWrite]
  cases target a <;> simp

end Sys2Proof.Machine
end

