-- ==== Sys2Proof/Laws/Ops.lean ====
section
/-!
SUPPORT. What the shared operations do: stack, timer, epilogue, interrupt entry and return, host input,
service.
-/

namespace Sys2Proof.Machine

/-! ### The stack -/

@[simp] theorem State.push16_sp (s : State) (v : Word) :
    (s.push16 v).sp = decWord (decWord s.sp) := by
  simp [State.push16]

@[simp] theorem State.push16_regs (s : State) (v : Word) : (s.push16 v).regs = s.regs := by
  simp [State.push16]

@[simp] theorem State.push16_pc (s : State) (v : Word) : (s.push16 v).pc = s.pc := by
  simp [State.push16]

@[simp] theorem State.push16_ime (s : State) (v : Word) : (s.push16 v).ime = s.ime := by
  simp [State.push16]

@[simp] theorem State.push16_halted (s : State) (v : Word) : (s.push16 v).halted = s.halted := by
  simp [State.push16]

@[simp] theorem State.push16_stopped (s : State) (v : Word) : (s.push16 v).stopped = s.stopped := by
  simp [State.push16]

@[simp] theorem State.push16_haltBug (s : State) (v : Word) : (s.push16 v).haltBug = s.haltBug := by
  simp [State.push16]

@[simp] theorem State.push16_cycles (s : State) (v : Word) : (s.push16 v).cycles = s.cycles := by
  simp [State.push16]

@[simp] theorem State.push16_cfg (s : State) (v : Word) : (s.push16 v).cfg = s.cfg := by
  simp [State.push16]

@[simp] theorem State.push16_host (s : State) (v : Word) : (s.push16 v).host = s.host := by
  simp [State.push16]

/-- A push keeps the canonical form of memory. -/
theorem State.wf_push16 (s : State) (v : Word) (h : s.mem.wf) : (s.push16 v).mem.wf :=
  State.wf_memWrite _ _ _ (State.wf_memWrite _ _ _ h)

/-- A push changes no read of an address that selects neither of the two bytes pushed. -/
theorem State.memRead_push16_ne (s : State) (v b : Word)
    (h1 : target b ≠ target (decWord s.sp)) (h2 : target b ≠ target (decWord (decWord s.sp))) :
    (s.push16 v).memRead b = s.memRead b := by
  simp only [State.push16]
  rw [State.memRead_memWrite_ne _ _ _ _ (by simpa using h2), State.memRead_setSp,
    State.memRead_memWrite_ne _ _ _ _ (by simpa using h1), State.memRead_setSp]

@[simp] theorem State.pop16_fst (s : State) :
    s.pop16.1 = joinBytes (s.memRead (incWord s.sp)) (s.memRead s.sp) := rfl

/-- A pop moves SP and changes nothing else. -/
@[simp] theorem State.pop16_snd (s : State) :
    s.pop16.2 = s.setSp (incWord (incWord s.sp)) := rfl

/-! ### The timer -/

@[simp] theorem State.countOnce_regs (s : State) : s.countOnce.regs = s.regs := by
  simp only [State.countOnce]; split <;> rfl

@[simp] theorem State.countMany_regs (k : Nat) (s : State) : (State.countMany k s).regs = s.regs := by
  induction k generalizing s with
  | zero => rfl
  | succ k ih => simp [State.countMany, ih]

@[simp] theorem State.tickDivider_regs (n : Nat) (s : State) : (s.tickDivider n).regs = s.regs := rfl

@[simp] theorem State.tickCounter_regs (n : Nat) (s : State) : (s.tickCounter n).regs = s.regs := by
  simp only [State.tickCounter]; split <;> simp

@[simp] theorem State.tick_regs (n : Nat) (s : State) : (s.tick n).regs = s.regs := by
  simp [State.tick]

@[simp] theorem State.countOnce_sp (s : State) : s.countOnce.sp = s.sp := by
  simp only [State.countOnce]; split <;> rfl

@[simp] theorem State.countMany_sp (k : Nat) (s : State) : (State.countMany k s).sp = s.sp := by
  induction k generalizing s with
  | zero => rfl
  | succ k ih => simp [State.countMany, ih]

@[simp] theorem State.tickDivider_sp (n : Nat) (s : State) : (s.tickDivider n).sp = s.sp := rfl

@[simp] theorem State.tickCounter_sp (n : Nat) (s : State) : (s.tickCounter n).sp = s.sp := by
  simp only [State.tickCounter]; split <;> simp

@[simp] theorem State.tick_sp (n : Nat) (s : State) : (s.tick n).sp = s.sp := by
  simp [State.tick]

@[simp] theorem State.countOnce_pc (s : State) : s.countOnce.pc = s.pc := by
  simp only [State.countOnce]; split <;> rfl

@[simp] theorem State.countMany_pc (k : Nat) (s : State) : (State.countMany k s).pc = s.pc := by
  induction k generalizing s with
  | zero => rfl
  | succ k ih => simp [State.countMany, ih]

@[simp] theorem State.tickDivider_pc (n : Nat) (s : State) : (s.tickDivider n).pc = s.pc := rfl

@[simp] theorem State.tickCounter_pc (n : Nat) (s : State) : (s.tickCounter n).pc = s.pc := by
  simp only [State.tickCounter]; split <;> simp

@[simp] theorem State.tick_pc (n : Nat) (s : State) : (s.tick n).pc = s.pc := by
  simp [State.tick]

@[simp] theorem State.countOnce_ime (s : State) : s.countOnce.ime = s.ime := by
  simp only [State.countOnce]; split <;> rfl

@[simp] theorem State.countMany_ime (k : Nat) (s : State) : (State.countMany k s).ime = s.ime := by
  induction k generalizing s with
  | zero => rfl
  | succ k ih => simp [State.countMany, ih]

@[simp] theorem State.tickDivider_ime (n : Nat) (s : State) : (s.tickDivider n).ime = s.ime := rfl

@[simp] theorem State.tickCounter_ime (n : Nat) (s : State) : (s.tickCounter n).ime = s.ime := by
  simp only [State.tickCounter]; split <;> simp

@[simp] theorem State.tick_ime (n : Nat) (s : State) : (s.tick n).ime = s.ime := by
  simp [State.tick]

@[simp] theorem State.countOnce_halted (s : State) : s.countOnce.halted = s.halted := by
  simp only [State.countOnce]; split <;> rfl

@[simp] theorem State.countMany_halted (k : Nat) (s : State) : (State.countMany k s).halted = s.halted := by
  induction k generalizing s with
  | zero => rfl
  | succ k ih => simp [State.countMany, ih]

@[simp] theorem State.tickDivider_halted (n : Nat) (s : State) : (s.tickDivider n).halted = s.halted := rfl

@[simp] theorem State.tickCounter_halted (n : Nat) (s : State) : (s.tickCounter n).halted = s.halted := by
  simp only [State.tickCounter]; split <;> simp

@[simp] theorem State.tick_halted (n : Nat) (s : State) : (s.tick n).halted = s.halted := by
  simp [State.tick]

@[simp] theorem State.countOnce_stopped (s : State) : s.countOnce.stopped = s.stopped := by
  simp only [State.countOnce]; split <;> rfl

@[simp] theorem State.countMany_stopped (k : Nat) (s : State) : (State.countMany k s).stopped = s.stopped := by
  induction k generalizing s with
  | zero => rfl
  | succ k ih => simp [State.countMany, ih]

@[simp] theorem State.tickDivider_stopped (n : Nat) (s : State) : (s.tickDivider n).stopped = s.stopped := rfl

@[simp] theorem State.tickCounter_stopped (n : Nat) (s : State) : (s.tickCounter n).stopped = s.stopped := by
  simp only [State.tickCounter]; split <;> simp

@[simp] theorem State.tick_stopped (n : Nat) (s : State) : (s.tick n).stopped = s.stopped := by
  simp [State.tick]

@[simp] theorem State.countOnce_haltBug (s : State) : s.countOnce.haltBug = s.haltBug := by
  simp only [State.countOnce]; split <;> rfl

@[simp] theorem State.countMany_haltBug (k : Nat) (s : State) : (State.countMany k s).haltBug = s.haltBug := by
  induction k generalizing s with
  | zero => rfl
  | succ k ih => simp [State.countMany, ih]

@[simp] theorem State.tickDivider_haltBug (n : Nat) (s : State) : (s.tickDivider n).haltBug = s.haltBug := rfl

@[simp] theorem State.tickCounter_haltBug (n : Nat) (s : State) : (s.tickCounter n).haltBug = s.haltBug := by
  simp only [State.tickCounter]; split <;> simp

@[simp] theorem State.tick_haltBug (n : Nat) (s : State) : (s.tick n).haltBug = s.haltBug := by
  simp [State.tick]

@[simp] theorem State.countOnce_ie (s : State) : s.countOnce.ie = s.ie := by
  simp only [State.countOnce]; split <;> rfl

@[simp] theorem State.countMany_ie (k : Nat) (s : State) : (State.countMany k s).ie = s.ie := by
  induction k generalizing s with
  | zero => rfl
  | succ k ih => simp [State.countMany, ih]

@[simp] theorem State.tickDivider_ie (n : Nat) (s : State) : (s.tickDivider n).ie = s.ie := rfl

@[simp] theorem State.tickCounter_ie (n : Nat) (s : State) : (s.tickCounter n).ie = s.ie := by
  simp only [State.tickCounter]; split <;> simp

@[simp] theorem State.tick_ie (n : Nat) (s : State) : (s.tick n).ie = s.ie := by
  simp [State.tick]

@[simp] theorem State.countOnce_joyp (s : State) : s.countOnce.joyp = s.joyp := by
  simp only [State.countOnce]; split <;> rfl

@[simp] theorem State.countMany_joyp (k : Nat) (s : State) : (State.countMany k s).joyp = s.joyp := by
  induction k generalizing s with
  | zero => rfl
  | succ k ih => simp [State.countMany, ih]

@[simp] theorem State.tickDivider_joyp (n : Nat) (s : State) : (s.tickDivider n).joyp = s.joyp := rfl

@[simp] theorem State.tickCounter_joyp (n : Nat) (s : State) : (s.tickCounter n).joyp = s.joyp := by
  simp only [State.tickCounter]; split <;> simp

@[simp] theorem State.tick_joyp (n : Nat) (s : State) : (s.tick n).joyp = s.joyp := by
  simp [State.tick]

@[simp] theorem State.countOnce_mem (s : State) : s.countOnce.mem = s.mem := by
  simp only [State.countOnce]; split <;> rfl

@[simp] theorem State.countMany_mem (k : Nat) (s : State) : (State.countMany k s).mem = s.mem := by
  induction k generalizing s with
  | zero => rfl
  | succ k ih => simp [State.countMany, ih]

@[simp] theorem State.tickDivider_mem (n : Nat) (s : State) : (s.tickDivider n).mem = s.mem := rfl

@[simp] theorem State.tickCounter_mem (n : Nat) (s : State) : (s.tickCounter n).mem = s.mem := by
  simp only [State.tickCounter]; split <;> simp

@[simp] theorem State.tick_mem (n : Nat) (s : State) : (s.tick n).mem = s.mem := by
  simp [State.tick]

@[simp] theorem State.countOnce_cycles (s : State) : s.countOnce.cycles = s.cycles := by
  simp only [State.countOnce]; split <;> rfl

@[simp] theorem State.countMany_cycles (k : Nat) (s : State) : (State.countMany k s).cycles = s.cycles := by
  induction k generalizing s with
  | zero => rfl
  | succ k ih => simp [State.countMany, ih]

@[simp] theorem State.tickDivider_cycles (n : Nat) (s : State) : (s.tickDivider n).cycles = s.cycles := rfl

@[simp] theorem State.tickCounter_cycles (n : Nat) (s : State) : (s.tickCounter n).cycles = s.cycles := by
  simp only [State.tickCounter]; split <;> simp

@[simp] theorem State.tick_cycles (n : Nat) (s : State) : (s.tick n).cycles = s.cycles := by
  simp [State.tick]

@[simp] theorem State.countOnce_cfg (s : State) : s.countOnce.cfg = s.cfg := by
  simp only [State.countOnce]; split <;> rfl

@[simp] theorem State.countMany_cfg (k : Nat) (s : State) : (State.countMany k s).cfg = s.cfg := by
  induction k generalizing s with
  | zero => rfl
  | succ k ih => simp [State.countMany, ih]

@[simp] theorem State.tickDivider_cfg (n : Nat) (s : State) : (s.tickDivider n).cfg = s.cfg := rfl

@[simp] theorem State.tickCounter_cfg (n : Nat) (s : State) : (s.tickCounter n).cfg = s.cfg := by
  simp only [State.tickCounter]; split <;> simp

@[simp] theorem State.tick_cfg (n : Nat) (s : State) : (s.tick n).cfg = s.cfg := by
  simp [State.tick]

@[simp] theorem State.countOnce_host (s : State) : s.countOnce.host = s.host := by
  simp only [State.countOnce]; split <;> rfl

@[simp] theorem State.countMany_host (k : Nat) (s : State) : (State.countMany k s).host = s.host := by
  induction k generalizing s with
  | zero => rfl
  | succ k ih => simp [State.countMany, ih]

@[simp] theorem State.tickDivider_host (n : Nat) (s : State) : (s.tickDivider n).host = s.host := rfl

@[simp] theorem State.tickCounter_host (n : Nat) (s : State) : (s.tickCounter n).host = s.host := by
  simp only [State.tickCounter]; split <;> simp

@[simp] theorem State.tick_host (n : Nat) (s : State) : (s.tick n).host = s.host := by
  simp [State.tick]

/-- One increment keeps TMA, TAC, DIV and both accumulators. -/
theorem State.countOnce_timer (s : State) :
    s.countOnce.timer = { s.timer with tima := s.countOnce.timer.tima } := by
  simp only [State.countOnce]; split <;> rfl

theorem State.countMany_timer (k : Nat) (s : State) :
    (State.countMany k s).timer = { s.timer with tima := (State.countMany k s).timer.tima } := by
  induction k generalizing s with
  | zero => rfl
  | succ k ih =>
    simp only [State.countMany]
    rw [ih s.countOnce, State.countOnce_timer s]

theorem State.countMany_succ (k : Nat) (s : State) :
    State.countMany (k + 1) s = (State.countMany k s).countOnce := by
  induction k generalizing s with
  | zero => rfl
  | succ k ih => exact ih s.countOnce

theorem State.countMany_add (j k : Nat) (s : State) :
    State.countMany (j + k) s = State.countMany k (State.countMany j s) := by
  induction j generalizing s with
  | zero => simp [State.countMany]
  | succ j ih =>
    rw [Nat.add_right_comm]
    exact ih s.countOnce

theorem Timer.period_pos (t : Timer) : 0 < t.period := by
  simp only [Timer.period]; split <;> decide

theorem Timer.period_le (t : Timer) : t.period ≤ 1024 := by
  simp only [Timer.period]; split <;> decide

/-- The divider's accumulator is below 256 after every tick (R315). -/
theorem State.tick_divAcc_lt (n : Nat) (s : State) : (s.tick n).timer.divAcc < 256 := by
  simp only [State.tick, State.tickCounter]
  split
  · rw [State.countMany_timer]
    exact Nat.mod_lt _ (by decide)
  · exact Nat.mod_lt _ (by decide)

/-- The counter's accumulator after a tick (R310). -/
theorem State.tick_timaAcc (n : Nat) (s : State) :
    (s.tick n).timer.timaAcc =
      if s.timer.enabled then (s.timer.timaAcc + n) % s.timer.period
      else if s.cfg.timaAcc = .accumulates then s.timer.timaAcc + n
      else s.timer.timaAcc := by
  have he : (s.tickDivider n).timer.enabled = s.timer.enabled := rfl
  have hp : (s.tickDivider n).timer.period = s.timer.period := rfl
  have ha : (s.tickDivider n).timer.timaAcc = s.timer.timaAcc := rfl
  simp only [State.tick, State.tickCounter, he, hp, ha, State.tickDivider_cfg]
  cases hen : s.timer.enabled
  · cases s.cfg.timaAcc <;> simp
  · simp only [if_true, Bool.true_or]
    rw [State.countMany_timer]
    rfl

/-! ### Interrupts -/

@[simp] theorem State.enterInterrupt_regs (q : IrqSource) (s : State) :
    (s.enterInterrupt q).regs = s.regs := by
  simp [State.enterInterrupt]

@[simp] theorem State.enterInterrupt_cycles (q : IrqSource) (s : State) :
    (s.enterInterrupt q).cycles = s.cycles := by
  simp [State.enterInterrupt]

@[simp] theorem State.enterInterrupt_cfg (q : IrqSource) (s : State) :
    (s.enterInterrupt q).cfg = s.cfg := by
  simp [State.enterInterrupt]

@[simp] theorem State.enterInterrupt_host (q : IrqSource) (s : State) :
    (s.enterInterrupt q).host = s.host := by
  simp [State.enterInterrupt]

@[simp] theorem State.enterInterrupt_stopped (q : IrqSource) (s : State) :
    (s.enterInterrupt q).stopped = s.stopped := by
  simp [State.enterInterrupt]

@[simp] theorem State.enterInterrupt_ime (q : IrqSource) (s : State) :
    (s.enterInterrupt q).ime = .unset := by
  simp [State.enterInterrupt]

@[simp] theorem State.enterInterrupt_pc (q : IrqSource) (s : State) :
    (s.enterInterrupt q).pc = q.handler := by
  simp [State.enterInterrupt]

@[simp] theorem State.enterInterrupt_sp (q : IrqSource) (s : State) :
    (s.enterInterrupt q).sp = decWord (decWord s.sp) := by
  simp [State.enterInterrupt]

@[simp] theorem State.enterInterrupt_halted (q : IrqSource) (s : State) :
    (s.enterInterrupt q).halted = false := by
  simp [State.enterInterrupt]

@[simp] theorem State.enterInterrupt_haltBug (q : IrqSource) (s : State) :
    (s.enterInterrupt q).haltBug = false := by
  simp [State.enterInterrupt]

theorem State.wf_enterInterrupt (q : IrqSource) (s : State) (h : s.mem.wf) :
    (s.enterInterrupt q).mem.wf := by
  simp only [State.enterInterrupt, State.tick_mem, State.setHaltBug_mem, State.setHalted_mem,
    State.setPc_mem]
  exact State.wf_push16 _ _ h

/-- A request is pending and enabled exactly when `IE & IF & 0x1F` is not zero (R280, R290). -/
theorem State.firstPending_isSome (s : State) : s.firstPending.isSome = (s.pending != 0) := by
  have h : ∀ p : Byte, p &&& 0x1F = p →
      (p != 0) = (p.getLsbD 0 || p.getLsbD 1 || p.getLsbD 2 || p.getLsbD 3 || p.getLsbD 4) := by
    decide
  have hp : s.pending &&& 0x1F = s.pending := by
    have h1 : (0x1F : Byte) &&& 0x1F = 0x1F := by decide
    simp only [State.pending, BitVec.and_assoc, h1]
  rw [h _ hp]
  simp only [State.firstPending]
  split_ifs <;> simp_all

/-- What the service phase can do (R280, R290, R303): nothing, a wake, or one dispatch. -/
theorem State.service_cases (s : State) :
    (s.firstPending = none ∧ s.service = s) ∨
    (∃ q, s.firstPending = some q ∧ s.ime = .set ∧
      s.service = (s.setHalted false).enterInterrupt q) ∨
    (s.firstPending.isSome ∧ s.ime ≠ .set ∧ s.service = s.setHalted false) := by
  have hh : s.halted = false → s.setHalted false = s := by
    intro h; cases s; simp_all [State.setHalted]
  cases hp : s.firstPending with
  | none =>
    refine .inl ⟨rfl, ?_⟩
    simp only [State.service, State.wakeHalted, hp, Option.isSome_none, Bool.and_false,
      Bool.false_eq_true, if_false]
    cases s.ime <;> rfl
  | some q =>
    right
    have hw : s.wakeHalted = s.setHalted false := by
      simp only [State.wakeHalted, hp, Option.isSome_some, Bool.and_true]
      split
      · rfl
      · rename_i hn
        exact (hh (by simpa using hn)).symm
    have hp' : (s.setHalted false).firstPending = some q := hp
    by_cases hi : s.ime = .set
    · refine .inl ⟨q, rfl, hi, ?_⟩
      simp only [State.service, hw, hp', State.setHalted_ime, hi]
    · refine .inr ⟨rfl, hi, ?_⟩
      simp only [State.service, hw, hp', State.setHalted_ime]
      cases h : s.ime <;> simp_all

/-! ### The host -/

/-- A host input changes IF, the joypad byte and the stopped bit only (R286). -/
theorem State.applyInput_eq (h : HostInput) (s : State) :
    s.applyInput h = { s with
      ifl := (s.applyInput h).ifl, joyp := (s.applyInput h).joyp,
      stopped := (s.applyInput h).stopped } := by
  simp only [State.applyInput]
  cases h.buttons <;> cases h.wake <;> rfl

/-- The host phase changes IF, the joypad byte, the stopped bit and the list of inputs only. -/
theorem State.hostPhase_eq (s : State) :
    s.hostPhase = { s with
      ifl := s.hostPhase.ifl, joyp := s.hostPhase.joyp, stopped := s.hostPhase.stopped,
      host := s.host.tail } := by
  cases hh : s.host with
  | nil => cases s; simp_all [State.hostPhase]
  | cons x rest =>
    simp only [State.hostPhase, hh]
    rw [State.applyInput_eq]
    rfl

end Sys2Proof.Machine
end

