-- ==== Sys2Proof/Laws/Exec.lean ====
section
/-!
SUPPORT. `exec` by forms: one case per instruction rule in the place of one per row of the opcode
table. A proof about all instructions goes through `exec_eq_runForm` and `cases` on the form.
-/

namespace Sys2Proof.Machine

/-- What a form does: the shared operation its rows call. -/
def runForm : Form → State → Result
  | .nop => noOperation
  | .stop pad => stopCore pad
  | .halt => haltCore
  | .di => disableInterrupts
  | .ei => requestInterrupts
  | .ldRR dst src => loadRegReg dst src
  | .ldRM dst => loadRegMem dst
  | .ldMR src => storeReg src
  | .ldRN dst n => loadRegImm dst n
  | .ldMN n => storeImm n
  | .ldAInd i => loadIndirect i
  | .ldIndA i => storeIndirect i
  | .ldhNA n => storeHighN n
  | .ldhAN n => loadHighN n
  | .ldCA => storeHighC
  | .ldAC => loadHighC
  | .ldNNA nn => storeAbs nn
  | .ldANN nn => loadAbs nn
  | .ldR16 p nn => loadPair p nn
  | .ldNNSP nn => storeSP nn
  | .ldSPHL => loadSPHL
  | .ldHLSP e => loadHLSP e
  | .push p => pushPair p
  | .pop p => popPair p
  | .alu k o => aluOperand k o
  | .aluN k n => aluImmediate k n
  | .inc8 o => incOperand o
  | .dec8 o => decOperand o
  | .daa => decimalAdjust
  | .cpl => complementA
  | .scf => setCarry
  | .ccf => complementCarry
  | .addHL p => addToHL p
  | .addSP e => addToSP e
  | .incR16 p => incPair p
  | .decR16 p => decPair p
  | .rlca => rotAccumulator .rlc
  | .rla => rotAccumulator .rl
  | .rrca => rotAccumulator .rrc
  | .rra => rotAccumulator .rr
  | .rot k o => rotOperand k o
  | .bit b o => testBit b o
  | .res b o => clearBit b o
  | .set b o => setBit b o
  | .jp nn => jumpTo nn
  | .jpCc cc nn => jumpIf cc nn
  | .jpHL => jumpToHL
  | .jr e => jumpRelative e
  | .jrCc cc e => jumpRelativeIf cc e
  | .call nn => callTo nn
  | .callCc cc nn => callIf cc nn
  | .ret => returnFromCall
  | .retCc cc => returnIf cc
  | .reti => returnFromHandler
  | .rst t => restartAt t
  | .cbPrefix op2 => runExtended op2
  | .illegal op => illegalFirstByte op

/-- Every arm of `exec` is its form's shared operation. -/
theorem exec_eq_runForm (i : Instr) (s : State) : exec i s = runForm i.form s := by
  cases i <;> rfl

@[simp] theorem exec_instr (f : Form) (s : State) : exec f.instr s = runForm f s := by
  rw [exec_eq_runForm, form_instr]

/-- The prefix byte runs what the extended table gives its second byte (R226). -/
theorem runExtended_eq (op2 : Byte) (s : State) :
    runExtended op2 s = runForm (decodeCb op2) s := by
  unfold runExtended decodeCb
  generalize fieldX op2 = x
  match x with
  | 0 => rfl
  | 1 => rfl
  | 2 => rfl
  | _ + 3 => rfl

end Sys2Proof.Machine
end

