-- ==== Sys2Proof/Tests/Slice0.lean ====
section
/-!
SUPPORT. Tests. Their expected results come from `spec/95_test_vectors.md`, from the opcode map (R107,
R108) or from the worked examples of the rules they name. The theorems called `witness_…` show concrete
states and operands that meet the hypotheses of the statements.
-/

namespace Sys2Proof.Tests

open Sys2Proof Sys2Proof.Machine

/-- The conventions of `95_test_vectors.md`: the default parameters. -/
def usual : Config := Config.default

/-- The default parameters but `HALT_POLICY = sm83`. -/
def sm83 : Config := { Config.default with haltPolicy := .sm83 }

/-- Bytes stored from an address on. -/
def storeBytes (s : State) (a : Word) : List Byte → State
  | [] => s
  | b :: rest => storeBytes (s.memWrite a b) (a + 1) rest

/-- The conventions of `95_test_vectors.md`: the bytes at 0x0100, PC there, all else zero. -/
def at0100 (cfg : Config) (bytes : List Byte) : State :=
  (storeBytes (State.powerOn cfg [] []) 0x0100 bytes).setPc 0x0100

/-- Whether the instruction at PC and its epilogue lead to a state that passes a check. -/
def becomes (s : State) (check : State → Bool) : Bool :=
  match exec s.fetchInstr.1 s.fetchInstr.2 with
  | .next t => check t.epilogue
  | _ => false

/-- Whether a whole machine step leads to a state that passes a check. -/
def stepsTo (s : State) (check : State → Bool) : Bool :=
  match step s with
  | .next t => check t
  | _ => false

/-- Whether a step stops with the given fault. -/
def faults (s : State) (r : Fault) : Bool :=
  match step s with
  | .fault q => q == r
  | _ => false

/-- The instruction that exactly these bytes decode to. -/
def decoded (bytes : List Byte) : Option Instr :=
  match decode bytes with
  | .ok (i, []) => some i
  | _ => none

/-! ### Well-formed instructions -/

theorem test_wellFormed_refuses_a_legal_byte_as_illegal :
    (Instr.illegal 0x00).wellFormed = false := by decide

theorem test_wellFormed_refuses_the_bare_prefix : (Instr.cb 0x11).wellFormed = false := by decide

theorem test_wellFormed_accepts :
    ([.illegal 0xD3, .illegal 0xFD, .ldA_N 0xFF, .rlC, .stop 0x01] : List Instr).all
      Instr.wellFormed = true := by
  decide

theorem test_decode_short_input_refused :
    decoded [] = none ∧ decoded [0x3E] = none ∧ decoded [0xC3, 0x00] = none ∧
      decoded [0xCB] = none := by
  decide

/-! ### Decoding, unprefixed: the grid of R108, row by row. A byte of `0x8F` follows where the
instruction has one operand byte, `0x34 0x92` where it has a word. -/

theorem test_decode_0x :
    [[0x00], [0x01, 0x34, 0x92], [0x02], [0x03], [0x04], [0x05], [0x06, 0x8F], [0x07], [0x08,
      0x34, 0x92], [0x09], [0x0A], [0x0B], [0x0C], [0x0D], [0x0E, 0x8F], [0x0F]].map decoded =
      ([.nop, .ldBC_NN 0x9234, .ldAtBC_A, .incBC, .incB, .decB, .ldB_N 0x8F, .rlca,
        .ldAtNN_SP 0x9234, .addHL_BC, .ldA_AtBC, .decBC, .incC, .decC, .ldC_N 0x8F,
        .rrca] :
        List Instr).map some := by
  decide

theorem test_decode_1x :
    [[0x10, 0x5A], [0x11, 0x34, 0x92], [0x12], [0x13], [0x14], [0x15], [0x16, 0x8F], [0x17],
      [0x18, 0x8F], [0x19], [0x1A], [0x1B], [0x1C], [0x1D], [0x1E, 0x8F], [0x1F]].map decoded =
      ([.stop 0x5A, .ldDE_NN 0x9234, .ldAtDE_A, .incDE, .incD, .decD, .ldD_N 0x8F, .rla,
        .jrE 0x8F, .addHL_DE, .ldA_AtDE, .decDE, .incE, .decE, .ldE_N 0x8F, .rra] :
        List Instr).map some := by
  decide

theorem test_decode_2x :
    [[0x20, 0x8F], [0x21, 0x34, 0x92], [0x22], [0x23], [0x24], [0x25], [0x26, 0x8F], [0x27],
      [0x28, 0x8F], [0x29], [0x2A], [0x2B], [0x2C], [0x2D], [0x2E, 0x8F], [0x2F]].map decoded =
      ([.jrNZ_E 0x8F, .ldHL_NN 0x9234, .ldAtHLI_A, .incHL, .incH, .decH, .ldH_N 0x8F, .daa,
        .jrZ_E 0x8F, .addHL_HL, .ldA_AtHLI, .decHL, .incL, .decL, .ldL_N 0x8F, .cpl] :
        List Instr).map some := by
  decide

theorem test_decode_3x :
    [[0x30, 0x8F], [0x31, 0x34, 0x92], [0x32], [0x33], [0x34], [0x35], [0x36, 0x8F], [0x37],
      [0x38, 0x8F], [0x39], [0x3A], [0x3B], [0x3C], [0x3D], [0x3E, 0x8F], [0x3F]].map decoded =
      ([.jrNC_E 0x8F, .ldSP_NN 0x9234, .ldAtHLD_A, .incSP, .incAtHL, .decAtHL, .ldAtHL_N
        0x8F, .scf, .jrC_E 0x8F, .addHL_SP, .ldA_AtHLD, .decSP, .incA, .decA, .ldA_N
        0x8F, .ccf] :
        List Instr).map some := by
  decide

theorem test_decode_4x :
    [[0x40], [0x41], [0x42], [0x43], [0x44], [0x45], [0x46], [0x47], [0x48], [0x49], [0x4A],
      [0x4B], [0x4C], [0x4D], [0x4E], [0x4F]].map decoded =
      ([.ldB_B, .ldB_C, .ldB_D, .ldB_E, .ldB_H, .ldB_L, .ldB_AtHL, .ldB_A, .ldC_B, .ldC_C,
        .ldC_D, .ldC_E, .ldC_H, .ldC_L, .ldC_AtHL, .ldC_A] :
        List Instr).map some := by
  decide

theorem test_decode_5x :
    [[0x50], [0x51], [0x52], [0x53], [0x54], [0x55], [0x56], [0x57], [0x58], [0x59], [0x5A],
      [0x5B], [0x5C], [0x5D], [0x5E], [0x5F]].map decoded =
      ([.ldD_B, .ldD_C, .ldD_D, .ldD_E, .ldD_H, .ldD_L, .ldD_AtHL, .ldD_A, .ldE_B, .ldE_C,
        .ldE_D, .ldE_E, .ldE_H, .ldE_L, .ldE_AtHL, .ldE_A] :
        List Instr).map some := by
  decide

theorem test_decode_6x :
    [[0x60], [0x61], [0x62], [0x63], [0x64], [0x65], [0x66], [0x67], [0x68], [0x69], [0x6A],
      [0x6B], [0x6C], [0x6D], [0x6E], [0x6F]].map decoded =
      ([.ldH_B, .ldH_C, .ldH_D, .ldH_E, .ldH_H, .ldH_L, .ldH_AtHL, .ldH_A, .ldL_B, .ldL_C,
        .ldL_D, .ldL_E, .ldL_H, .ldL_L, .ldL_AtHL, .ldL_A] :
        List Instr).map some := by
  decide

theorem test_decode_7x :
    [[0x70], [0x71], [0x72], [0x73], [0x74], [0x75], [0x76], [0x77], [0x78], [0x79], [0x7A],
      [0x7B], [0x7C], [0x7D], [0x7E], [0x7F]].map decoded =
      ([.ldAtHL_B, .ldAtHL_C, .ldAtHL_D, .ldAtHL_E, .ldAtHL_H, .ldAtHL_L, .halt, .ldAtHL_A,
        .ldA_B, .ldA_C, .ldA_D, .ldA_E, .ldA_H, .ldA_L, .ldA_AtHL, .ldA_A] :
        List Instr).map some := by
  decide

theorem test_decode_8x :
    [[0x80], [0x81], [0x82], [0x83], [0x84], [0x85], [0x86], [0x87], [0x88], [0x89], [0x8A],
      [0x8B], [0x8C], [0x8D], [0x8E], [0x8F]].map decoded =
      ([.addA_B, .addA_C, .addA_D, .addA_E, .addA_H, .addA_L, .addA_AtHL, .addA_A, .adcA_B,
        .adcA_C, .adcA_D, .adcA_E, .adcA_H, .adcA_L, .adcA_AtHL, .adcA_A] :
        List Instr).map some := by
  decide

theorem test_decode_9x :
    [[0x90], [0x91], [0x92], [0x93], [0x94], [0x95], [0x96], [0x97], [0x98], [0x99], [0x9A],
      [0x9B], [0x9C], [0x9D], [0x9E], [0x9F]].map decoded =
      ([.subB, .subC, .subD, .subE, .subH, .subL, .subAtHL, .subA, .sbcA_B, .sbcA_C,
        .sbcA_D, .sbcA_E, .sbcA_H, .sbcA_L, .sbcA_AtHL, .sbcA_A] :
        List Instr).map some := by
  decide

theorem test_decode_Ax :
    [[0xA0], [0xA1], [0xA2], [0xA3], [0xA4], [0xA5], [0xA6], [0xA7], [0xA8], [0xA9], [0xAA],
      [0xAB], [0xAC], [0xAD], [0xAE], [0xAF]].map decoded =
      ([.andB, .andC, .andD, .andE, .andH, .andL, .andAtHL, .andA, .xorB, .xorC, .xorD,
        .xorE, .xorH, .xorL, .xorAtHL, .xorA] :
        List Instr).map some := by
  decide

theorem test_decode_Bx :
    [[0xB0], [0xB1], [0xB2], [0xB3], [0xB4], [0xB5], [0xB6], [0xB7], [0xB8], [0xB9], [0xBA],
      [0xBB], [0xBC], [0xBD], [0xBE], [0xBF]].map decoded =
      ([.orB, .orC, .orD, .orE, .orH, .orL, .orAtHL, .orA, .cpB, .cpC, .cpD, .cpE, .cpH,
        .cpL, .cpAtHL, .cpA] :
        List Instr).map some := by
  decide

theorem test_decode_Cx :
    [[0xC0], [0xC1], [0xC2, 0x34, 0x92], [0xC3, 0x34, 0x92], [0xC4, 0x34, 0x92], [0xC5], [0xC6,
      0x8F], [0xC7], [0xC8], [0xC9], [0xCA, 0x34, 0x92], [0xCB, 0x11], [0xCC, 0x34, 0x92],
      [0xCD, 0x34, 0x92], [0xCE, 0x8F], [0xCF]].map decoded =
      ([.retNZ, .popBC, .jpNZ_NN 0x9234, .jpNN 0x9234, .callNZ_NN 0x9234, .pushBC, .addA_N
        0x8F, .rst00, .retZ, .ret, .jpZ_NN 0x9234, .rlC, .callZ_NN 0x9234, .callNN
        0x9234, .adcA_N 0x8F, .rst08] :
        List Instr).map some := by
  decide

theorem test_decode_Dx :
    [[0xD0], [0xD1], [0xD2, 0x34, 0x92], [0xD3], [0xD4, 0x34, 0x92], [0xD5], [0xD6, 0x8F],
      [0xD7], [0xD8], [0xD9], [0xDA, 0x34, 0x92], [0xDB], [0xDC, 0x34, 0x92], [0xDD],
      [0xDE, 0x8F], [0xDF]].map decoded =
      ([.retNC, .popDE, .jpNC_NN 0x9234, .illegal 0xD3, .callNC_NN 0x9234, .pushDE, .subN
        0x8F, .rst10, .retC, .reti, .jpC_NN 0x9234, .illegal 0xDB, .callC_NN 0x9234,
        .illegal 0xDD, .sbcA_N 0x8F, .rst18] :
        List Instr).map some := by
  decide

theorem test_decode_Ex :
    [[0xE0, 0x8F], [0xE1], [0xE2], [0xE3], [0xE4], [0xE5], [0xE6, 0x8F], [0xE7], [0xE8, 0x8F],
      [0xE9], [0xEA, 0x34, 0x92], [0xEB], [0xEC], [0xED], [0xEE, 0x8F], [0xEF]].map decoded =
      ([.ldhAtN_A 0x8F, .popHL, .ldAtC_A, .illegal 0xE3, .illegal 0xE4, .pushHL, .andN 0x8F,
        .rst20, .addSP_E 0x8F, .jpHL, .ldAtNN_A 0x9234, .illegal 0xEB, .illegal
        0xEC, .illegal 0xED, .xorN 0x8F, .rst28] :
        List Instr).map some := by
  decide

theorem test_decode_Fx :
    [[0xF0, 0x8F], [0xF1], [0xF2], [0xF3], [0xF4], [0xF5], [0xF6, 0x8F], [0xF7], [0xF8, 0x8F],
      [0xF9], [0xFA, 0x34, 0x92], [0xFB], [0xFC], [0xFD], [0xFE, 0x8F], [0xFF]].map decoded =
      ([.ldhA_AtN 0x8F, .popAF, .ldA_AtC, .di, .illegal 0xF4, .pushAF, .orN 0x8F, .rst30,
        .ldHL_SPE 0x8F, .ldSP_HL, .ldA_AtNN 0x9234, .ei, .illegal 0xFC, .illegal
        0xFD, .cpN 0x8F, .rst38] :
        List Instr).map some := by
  decide

/-! ### Decoding, extended: R107. -/

theorem test_decode_CB_0x :
    [[0xCB, 0x00], [0xCB, 0x01], [0xCB, 0x02], [0xCB, 0x03], [0xCB, 0x04], [0xCB, 0x05], [0xCB,
      0x06], [0xCB, 0x07], [0xCB, 0x08], [0xCB, 0x09], [0xCB, 0x0A], [0xCB, 0x0B], [0xCB,
      0x0C], [0xCB, 0x0D], [0xCB, 0x0E], [0xCB, 0x0F]].map decoded =
      ([.rlcB, .rlcC, .rlcD, .rlcE, .rlcH, .rlcL, .rlcAtHL, .rlcA, .rrcB, .rrcC, .rrcD,
        .rrcE, .rrcH, .rrcL, .rrcAtHL, .rrcA] :
        List Instr).map some := by
  decide

theorem test_decode_CB_1x :
    [[0xCB, 0x10], [0xCB, 0x11], [0xCB, 0x12], [0xCB, 0x13], [0xCB, 0x14], [0xCB, 0x15], [0xCB,
      0x16], [0xCB, 0x17], [0xCB, 0x18], [0xCB, 0x19], [0xCB, 0x1A], [0xCB, 0x1B], [0xCB,
      0x1C], [0xCB, 0x1D], [0xCB, 0x1E], [0xCB, 0x1F]].map decoded =
      ([.rlB, .rlC, .rlD, .rlE, .rlH, .rlL, .rlAtHL, .rlA, .rrB, .rrC, .rrD, .rrE, .rrH,
        .rrL, .rrAtHL, .rrA] :
        List Instr).map some := by
  decide

theorem test_decode_CB_2x :
    [[0xCB, 0x20], [0xCB, 0x21], [0xCB, 0x22], [0xCB, 0x23], [0xCB, 0x24], [0xCB, 0x25], [0xCB,
      0x26], [0xCB, 0x27], [0xCB, 0x28], [0xCB, 0x29], [0xCB, 0x2A], [0xCB, 0x2B], [0xCB,
      0x2C], [0xCB, 0x2D], [0xCB, 0x2E], [0xCB, 0x2F]].map decoded =
      ([.slaB, .slaC, .slaD, .slaE, .slaH, .slaL, .slaAtHL, .slaA, .sraB, .sraC, .sraD,
        .sraE, .sraH, .sraL, .sraAtHL, .sraA] :
        List Instr).map some := by
  decide

theorem test_decode_CB_3x :
    [[0xCB, 0x30], [0xCB, 0x31], [0xCB, 0x32], [0xCB, 0x33], [0xCB, 0x34], [0xCB, 0x35], [0xCB,
      0x36], [0xCB, 0x37], [0xCB, 0x38], [0xCB, 0x39], [0xCB, 0x3A], [0xCB, 0x3B], [0xCB,
      0x3C], [0xCB, 0x3D], [0xCB, 0x3E], [0xCB, 0x3F]].map decoded =
      ([.swapB, .swapC, .swapD, .swapE, .swapH, .swapL, .swapAtHL, .swapA, .srlB, .srlC,
        .srlD, .srlE, .srlH, .srlL, .srlAtHL, .srlA] :
        List Instr).map some := by
  decide

theorem test_decode_CB_4x :
    [[0xCB, 0x40], [0xCB, 0x41], [0xCB, 0x42], [0xCB, 0x43], [0xCB, 0x44], [0xCB, 0x45], [0xCB,
      0x46], [0xCB, 0x47], [0xCB, 0x48], [0xCB, 0x49], [0xCB, 0x4A], [0xCB, 0x4B], [0xCB,
      0x4C], [0xCB, 0x4D], [0xCB, 0x4E], [0xCB, 0x4F]].map decoded =
      ([.bit0_B, .bit0_C, .bit0_D, .bit0_E, .bit0_H, .bit0_L, .bit0_AtHL, .bit0_A, .bit1_B,
        .bit1_C, .bit1_D, .bit1_E, .bit1_H, .bit1_L, .bit1_AtHL, .bit1_A] :
        List Instr).map some := by
  decide

theorem test_decode_CB_5x :
    [[0xCB, 0x50], [0xCB, 0x51], [0xCB, 0x52], [0xCB, 0x53], [0xCB, 0x54], [0xCB, 0x55], [0xCB,
      0x56], [0xCB, 0x57], [0xCB, 0x58], [0xCB, 0x59], [0xCB, 0x5A], [0xCB, 0x5B], [0xCB,
      0x5C], [0xCB, 0x5D], [0xCB, 0x5E], [0xCB, 0x5F]].map decoded =
      ([.bit2_B, .bit2_C, .bit2_D, .bit2_E, .bit2_H, .bit2_L, .bit2_AtHL, .bit2_A, .bit3_B,
        .bit3_C, .bit3_D, .bit3_E, .bit3_H, .bit3_L, .bit3_AtHL, .bit3_A] :
        List Instr).map some := by
  decide

theorem test_decode_CB_6x :
    [[0xCB, 0x60], [0xCB, 0x61], [0xCB, 0x62], [0xCB, 0x63], [0xCB, 0x64], [0xCB, 0x65], [0xCB,
      0x66], [0xCB, 0x67], [0xCB, 0x68], [0xCB, 0x69], [0xCB, 0x6A], [0xCB, 0x6B], [0xCB,
      0x6C], [0xCB, 0x6D], [0xCB, 0x6E], [0xCB, 0x6F]].map decoded =
      ([.bit4_B, .bit4_C, .bit4_D, .bit4_E, .bit4_H, .bit4_L, .bit4_AtHL, .bit4_A, .bit5_B,
        .bit5_C, .bit5_D, .bit5_E, .bit5_H, .bit5_L, .bit5_AtHL, .bit5_A] :
        List Instr).map some := by
  decide

theorem test_decode_CB_7x :
    [[0xCB, 0x70], [0xCB, 0x71], [0xCB, 0x72], [0xCB, 0x73], [0xCB, 0x74], [0xCB, 0x75], [0xCB,
      0x76], [0xCB, 0x77], [0xCB, 0x78], [0xCB, 0x79], [0xCB, 0x7A], [0xCB, 0x7B], [0xCB,
      0x7C], [0xCB, 0x7D], [0xCB, 0x7E], [0xCB, 0x7F]].map decoded =
      ([.bit6_B, .bit6_C, .bit6_D, .bit6_E, .bit6_H, .bit6_L, .bit6_AtHL, .bit6_A, .bit7_B,
        .bit7_C, .bit7_D, .bit7_E, .bit7_H, .bit7_L, .bit7_AtHL, .bit7_A] :
        List Instr).map some := by
  decide

theorem test_decode_CB_8x :
    [[0xCB, 0x80], [0xCB, 0x81], [0xCB, 0x82], [0xCB, 0x83], [0xCB, 0x84], [0xCB, 0x85], [0xCB,
      0x86], [0xCB, 0x87], [0xCB, 0x88], [0xCB, 0x89], [0xCB, 0x8A], [0xCB, 0x8B], [0xCB,
      0x8C], [0xCB, 0x8D], [0xCB, 0x8E], [0xCB, 0x8F]].map decoded =
      ([.res0_B, .res0_C, .res0_D, .res0_E, .res0_H, .res0_L, .res0_AtHL, .res0_A, .res1_B,
        .res1_C, .res1_D, .res1_E, .res1_H, .res1_L, .res1_AtHL, .res1_A] :
        List Instr).map some := by
  decide

theorem test_decode_CB_9x :
    [[0xCB, 0x90], [0xCB, 0x91], [0xCB, 0x92], [0xCB, 0x93], [0xCB, 0x94], [0xCB, 0x95], [0xCB,
      0x96], [0xCB, 0x97], [0xCB, 0x98], [0xCB, 0x99], [0xCB, 0x9A], [0xCB, 0x9B], [0xCB,
      0x9C], [0xCB, 0x9D], [0xCB, 0x9E], [0xCB, 0x9F]].map decoded =
      ([.res2_B, .res2_C, .res2_D, .res2_E, .res2_H, .res2_L, .res2_AtHL, .res2_A, .res3_B,
        .res3_C, .res3_D, .res3_E, .res3_H, .res3_L, .res3_AtHL, .res3_A] :
        List Instr).map some := by
  decide

theorem test_decode_CB_Ax :
    [[0xCB, 0xA0], [0xCB, 0xA1], [0xCB, 0xA2], [0xCB, 0xA3], [0xCB, 0xA4], [0xCB, 0xA5], [0xCB,
      0xA6], [0xCB, 0xA7], [0xCB, 0xA8], [0xCB, 0xA9], [0xCB, 0xAA], [0xCB, 0xAB], [0xCB,
      0xAC], [0xCB, 0xAD], [0xCB, 0xAE], [0xCB, 0xAF]].map decoded =
      ([.res4_B, .res4_C, .res4_D, .res4_E, .res4_H, .res4_L, .res4_AtHL, .res4_A, .res5_B,
        .res5_C, .res5_D, .res5_E, .res5_H, .res5_L, .res5_AtHL, .res5_A] :
        List Instr).map some := by
  decide

theorem test_decode_CB_Bx :
    [[0xCB, 0xB0], [0xCB, 0xB1], [0xCB, 0xB2], [0xCB, 0xB3], [0xCB, 0xB4], [0xCB, 0xB5], [0xCB,
      0xB6], [0xCB, 0xB7], [0xCB, 0xB8], [0xCB, 0xB9], [0xCB, 0xBA], [0xCB, 0xBB], [0xCB,
      0xBC], [0xCB, 0xBD], [0xCB, 0xBE], [0xCB, 0xBF]].map decoded =
      ([.res6_B, .res6_C, .res6_D, .res6_E, .res6_H, .res6_L, .res6_AtHL, .res6_A, .res7_B,
        .res7_C, .res7_D, .res7_E, .res7_H, .res7_L, .res7_AtHL, .res7_A] :
        List Instr).map some := by
  decide

theorem test_decode_CB_Cx :
    [[0xCB, 0xC0], [0xCB, 0xC1], [0xCB, 0xC2], [0xCB, 0xC3], [0xCB, 0xC4], [0xCB, 0xC5], [0xCB,
      0xC6], [0xCB, 0xC7], [0xCB, 0xC8], [0xCB, 0xC9], [0xCB, 0xCA], [0xCB, 0xCB], [0xCB,
      0xCC], [0xCB, 0xCD], [0xCB, 0xCE], [0xCB, 0xCF]].map decoded =
      ([.set0_B, .set0_C, .set0_D, .set0_E, .set0_H, .set0_L, .set0_AtHL, .set0_A, .set1_B,
        .set1_C, .set1_D, .set1_E, .set1_H, .set1_L, .set1_AtHL, .set1_A] :
        List Instr).map some := by
  decide

theorem test_decode_CB_Dx :
    [[0xCB, 0xD0], [0xCB, 0xD1], [0xCB, 0xD2], [0xCB, 0xD3], [0xCB, 0xD4], [0xCB, 0xD5], [0xCB,
      0xD6], [0xCB, 0xD7], [0xCB, 0xD8], [0xCB, 0xD9], [0xCB, 0xDA], [0xCB, 0xDB], [0xCB,
      0xDC], [0xCB, 0xDD], [0xCB, 0xDE], [0xCB, 0xDF]].map decoded =
      ([.set2_B, .set2_C, .set2_D, .set2_E, .set2_H, .set2_L, .set2_AtHL, .set2_A, .set3_B,
        .set3_C, .set3_D, .set3_E, .set3_H, .set3_L, .set3_AtHL, .set3_A] :
        List Instr).map some := by
  decide

theorem test_decode_CB_Ex :
    [[0xCB, 0xE0], [0xCB, 0xE1], [0xCB, 0xE2], [0xCB, 0xE3], [0xCB, 0xE4], [0xCB, 0xE5], [0xCB,
      0xE6], [0xCB, 0xE7], [0xCB, 0xE8], [0xCB, 0xE9], [0xCB, 0xEA], [0xCB, 0xEB], [0xCB,
      0xEC], [0xCB, 0xED], [0xCB, 0xEE], [0xCB, 0xEF]].map decoded =
      ([.set4_B, .set4_C, .set4_D, .set4_E, .set4_H, .set4_L, .set4_AtHL, .set4_A, .set5_B,
        .set5_C, .set5_D, .set5_E, .set5_H, .set5_L, .set5_AtHL, .set5_A] :
        List Instr).map some := by
  decide

theorem test_decode_CB_Fx :
    [[0xCB, 0xF0], [0xCB, 0xF1], [0xCB, 0xF2], [0xCB, 0xF3], [0xCB, 0xF4], [0xCB, 0xF5], [0xCB,
      0xF6], [0xCB, 0xF7], [0xCB, 0xF8], [0xCB, 0xF9], [0xCB, 0xFA], [0xCB, 0xFB], [0xCB,
      0xFC], [0xCB, 0xFD], [0xCB, 0xFE], [0xCB, 0xFF]].map decoded =
      ([.set6_B, .set6_C, .set6_D, .set6_E, .set6_H, .set6_L, .set6_AtHL, .set6_A, .set7_B,
        .set7_C, .set7_D, .set7_E, .set7_H, .set7_L, .set7_AtHL, .set7_A] :
        List Instr).map some := by
  decide

/-! ### One-step vectors of `95_test_vectors.md`, sections 2 to 7. -/

/-! #### Vectors A: 8-bit arithmetic and logic. -/

theorem test_vector_A1 :
  becomes (at0100 usual [0x80] |>.setReg .a 0x3A |>.setReg .b 0xC6)
    (fun t => t.regs.a == 0x00 && t.regs.f == 0xB0 && t.cycles == 4 && t.pc == 0x0101) = true := by
  decide

theorem test_vector_A4 :
  becomes (at0100 usual [0xCE, 0x00] |>.setReg .a 0xFF |>.setF 0x10)
    (fun t => t.regs.a == 0x00 && t.regs.f == 0xB0 && t.cycles == 8 && t.pc == 0x0102) = true := by
  decide

theorem test_vector_A8 :
  becomes (at0100 usual [0xD6, 0x40] |>.setReg .a 0x3E)
    (fun t => t.regs.a == 0xFE && t.regs.f == 0x50 && t.cycles == 8 && t.pc == 0x0102) = true := by
  decide

theorem test_vector_A9 :
  becomes (at0100 usual [0xDE, 0xFF] |>.setReg .a 0x00 |>.setF 0x10)
    (fun t => t.regs.a == 0x00 && t.regs.f == 0xF0 && t.cycles == 8 && t.pc == 0x0102) = true := by
  decide

theorem test_vector_A12 :
  becomes (at0100 usual [0xB8] |>.setReg .a 0x3C |>.setReg .b 0x40)
    (fun t => t.regs.a == 0x3C && t.regs.f == 0x50 && t.cycles == 4 && t.pc == 0x0101) = true := by
  decide

theorem test_vector_A13 :
  becomes (at0100 usual [0xE6, 0x0F] |>.setReg .a 0xF0 |>.setF 0x10)
    (fun t => t.regs.a == 0x00 && t.regs.f == 0xA0 && t.cycles == 8 && t.pc == 0x0102) = true := by
  decide

theorem test_vector_A15 :
  becomes (at0100 usual [0xB0] |>.setReg .a 0x00 |>.setReg .b 0x00 |>.setF 0xF0)
    (fun t => t.regs.a == 0x00 && t.regs.f == 0x80 && t.cycles == 4 && t.pc == 0x0101) = true := by
  decide

theorem test_vector_A17 :
  becomes (at0100 usual [0xEE, 0x0F] |>.setReg .a 0xFF)
    (fun t => t.regs.a == 0xF0 && t.regs.f == 0x00 && t.cycles == 8 && t.pc == 0x0102) = true := by
  decide

theorem test_vector_A19 :
  becomes (at0100 usual [0x04] |>.setReg .b 0x0F |>.setF 0x40)
    (fun t => t.regs.b == 0x10 && t.regs.f == 0x20 && t.cycles == 4 && t.pc == 0x0101) = true := by
  decide

theorem test_vector_A21 :
  becomes (at0100 usual [0x2D] |>.setReg .l 0x00 |>.setF 0x10)
    (fun t => t.regs.l == 0xFF && t.regs.f == 0x70 && t.cycles == 4 && t.pc == 0x0101) = true := by
  decide

theorem test_vector_A24 :
  becomes (at0100 usual [0x35] |>.setHl 0xFEA0)
    (fun t => t.memRead 0xFEA0 == 0x00 && t.regs.f == 0x60 && t.cycles == 12 && t.pc == 0x0101) =
        true := by
  decide

theorem test_vector_A25 :
  becomes (at0100 usual [0x27] |>.setReg .a 0x9A)
    (fun t => t.regs.a == 0x00 && t.regs.f == 0x90 && t.cycles == 4 && t.pc == 0x0101) = true := by
  decide

theorem test_vector_A28 :
  becomes (at0100 usual [0x27] |>.setReg .a 0x4B |>.setF 0x60)
    (fun t => t.regs.a == 0x45 && t.regs.f == 0x40 && t.cycles == 4 && t.pc == 0x0101) = true := by
  decide

theorem test_vector_A30 :
  becomes (at0100 usual [0x2F] |>.setReg .a 0x00 |>.setF 0x90)
    (fun t => t.regs.a == 0xFF && t.regs.f == 0xF0 && t.cycles == 4 && t.pc == 0x0101) = true := by
  decide

theorem test_vector_A31 :
  becomes (at0100 usual [0x37] |>.setF 0xE0)
    (fun t => t.regs.f == 0x90 && t.cycles == 4 && t.pc == 0x0101) = true := by
  decide

theorem test_vector_A32 :
  becomes (at0100 usual [0x3F] |>.setF 0xF0)
    (fun t => t.regs.f == 0x80 && t.cycles == 4 && t.pc == 0x0101) = true := by
  decide

/-! #### Vectors W: 16-bit arithmetic. -/

theorem test_vector_W1 :
  becomes (at0100 usual [0x19] |>.setHl 0x0FFF |>.setDe 0x0001 |>.setF 0xC0)
    (fun t => t.hl == 0x1000 && t.regs.f == 0x20 && t.cycles == 8 && t.pc == 0x0101) = true := by
  decide

theorem test_vector_W2 :
  becomes (at0100 usual [0x39] |>.setHl 0xFFFF |>.setSp 0x0001)
    (fun t => t.hl == 0x0000 && t.regs.f == 0xB0 && t.cycles == 8 && t.pc == 0x0101) = true := by
  decide

theorem test_vector_W6 :
  becomes (at0100 usual [0xE8, 0x01] |>.setSp 0xFFFF)
    (fun t => t.sp == 0x0000 && t.regs.f == 0xB0 && t.cycles == 16 && t.pc == 0x0102) = true := by
  decide

theorem test_vector_W8 :
  becomes (at0100 usual [0xE8, 0x80] |>.setSp 0x0080)
    (fun t => t.sp == 0x0000 && t.regs.f == 0x90 && t.cycles == 16 && t.pc == 0x0102) = true := by
  decide

theorem test_vector_W9 :
  becomes (at0100 usual [0x33] |>.setSp 0xFFFF |>.setF 0xF0)
    (fun t => t.sp == 0x0000 && t.regs.f == 0xF0 && t.cycles == 8 && t.pc == 0x0101) = true := by
  decide

theorem test_vector_W10 :
  becomes (at0100 usual [0x2B] |>.setHl 0x0000)
    (fun t => t.hl == 0xFFFF && t.regs.f == 0x00 && t.cycles == 8 && t.pc == 0x0101) = true := by
  decide

/-! #### Vectors B: rotates, shifts and bits. -/

theorem test_vector_B1 :
  becomes (at0100 usual [0x07] |>.setReg .a 0x85 |>.setF 0x80)
    (fun t => t.regs.a == 0x0B && t.regs.f == 0x10 && t.cycles == 4 && t.pc == 0x0101) = true := by
  decide

theorem test_vector_B2 :
  becomes (at0100 usual [0x17] |>.setReg .a 0x80)
    (fun t => t.regs.a == 0x00 && t.regs.f == 0x10 && t.cycles == 4 && t.pc == 0x0101) = true := by
  decide

theorem test_vector_B3 :
  becomes (at0100 usual [0x0F] |>.setReg .a 0x01)
    (fun t => t.regs.a == 0x80 && t.regs.f == 0x10 && t.cycles == 4 && t.pc == 0x0101) = true := by
  decide

theorem test_vector_B4 :
  becomes (at0100 usual [0x1F] |>.setReg .a 0x01 |>.setF 0x10)
    (fun t => t.regs.a == 0x80 && t.regs.f == 0x10 && t.cycles == 4 && t.pc == 0x0101) = true := by
  decide

theorem test_vector_B6 :
  becomes (at0100 usual [0xCB, 0x00] |>.setReg .b 0x00 |>.setF 0x10)
    (fun t => t.regs.b == 0x00 && t.regs.f == 0x80 && t.cycles == 8 && t.pc == 0x0102) = true := by
  decide

theorem test_vector_B8 :
  becomes (at0100 usual [0xCB, 0x09] |>.setReg .c 0x01)
    (fun t => t.regs.c == 0x80 && t.regs.f == 0x10 && t.cycles == 8 && t.pc == 0x0102) = true := by
  decide

theorem test_vector_B9 :
  becomes (at0100 usual [0xCB, 0x12] |>.setReg .d 0x80)
    (fun t => t.regs.d == 0x00 && t.regs.f == 0x90 && t.cycles == 8 && t.pc == 0x0102) = true := by
  decide

theorem test_vector_B10 :
  becomes (at0100 usual [0xCB, 0x1B] |>.setReg .e 0x01)
    (fun t => t.regs.e == 0x00 && t.regs.f == 0x90 && t.cycles == 8 && t.pc == 0x0102) = true := by
  decide

theorem test_vector_B13 :
  becomes (at0100 usual [0xCB, 0x26] |>.setHl 0xC000 |>.memWrite 0xC000 0xFF)
    (fun t => t.memRead 0xC000 == 0xFE && t.regs.f == 0x10 && t.cycles == 16 && t.pc == 0x0102) =
        true := by
  decide

theorem test_vector_B14 :
  becomes (at0100 usual [0xCB, 0x2D] |>.setReg .l 0x81)
    (fun t => t.regs.l == 0xC0 && t.regs.f == 0x10 && t.cycles == 8 && t.pc == 0x0102) = true := by
  decide

theorem test_vector_B16 :
  becomes (at0100 usual [0xCB, 0x3F] |>.setReg .a 0x81)
    (fun t => t.regs.a == 0x40 && t.regs.f == 0x10 && t.cycles == 8 && t.pc == 0x0102) = true := by
  decide

theorem test_vector_B18 :
  becomes (at0100 usual [0xCB, 0x37] |>.setReg .a 0xF1 |>.setF 0x10)
    (fun t => t.regs.a == 0x1F && t.regs.f == 0x00 && t.cycles == 8 && t.pc == 0x0102) = true := by
  decide

theorem test_vector_B20 :
  becomes (at0100 usual [0xCB, 0x7F] |>.setReg .a 0x80 |>.setF 0x10)
    (fun t => t.regs.a == 0x80 && t.regs.f == 0x30 && t.cycles == 8 && t.pc == 0x0102) = true := by
  decide

theorem test_vector_B22 :
  becomes (at0100 usual [0xCB, 0x46] |>.setHl 0xFF00 |>.setF 0xD0)
    (fun t => t.regs.f == 0x30 && t.cycles == 12 && t.pc == 0x0102) = true := by
  decide

theorem test_vector_B25 :
  becomes (at0100 usual [0xCB, 0xBE] |>.setHl 0xC000 |>.memWrite 0xC000 0xFF)
    (fun t => t.memRead 0xC000 == 0x7F && t.cycles == 16 && t.pc == 0x0102) = true := by
  decide

theorem test_vector_B27 :
  becomes (at0100 usual [0xCB, 0xFE] |>.setHl 0xFF00)
    (fun t => t.memRead 0xFF00 == 0x8F && t.cycles == 16 && t.pc == 0x0102) = true := by
  decide

/-! #### Vectors J: control transfer. -/

theorem test_vector_J2 :
  becomes (at0100 usual [0xCA, 0x34, 0x12] |>.setF 0x80)
    (fun t => t.pc == 0x1234 && t.cycles == 16) = true := by
  decide

theorem test_vector_J4 :
  becomes (at0100 usual [0xD2, 0x34, 0x12] |>.setF 0x10)
    (fun t => t.pc == 0x0103 && t.cycles == 12) = true := by
  decide

theorem test_vector_J5 :
  becomes (at0100 usual [0xE9] |>.setHl 0xFFFF)
    (fun t => t.pc == 0xFFFF && t.cycles == 4) = true := by
  decide

theorem test_vector_J8 :
  becomes (at0100 usual [0x18, 0x80])
    (fun t => t.pc == 0x0082 && t.cycles == 12) = true := by
  decide

theorem test_vector_J9 :
  becomes (at0100 usual [0x38, 0x05] |>.setF 0x10)
    (fun t => t.pc == 0x0107 && t.cycles == 12) = true := by
  decide

theorem test_vector_J12 :
  becomes (at0100 usual [0xCD, 0x00, 0x20] |>.setSp 0xD000)
    (fun t => t.pc == 0x2000 && t.sp == 0xCFFE && t.memRead 0xCFFF == 0x01 && t.memRead 0xCFFE ==
        0x03 && t.cycles == 24) = true := by
  decide

theorem test_vector_J14 :
  becomes (at0100 usual [0xDC, 0x00, 0x20] |>.setF 0x10 |>.setSp 0x0001)
    (fun t => t.pc == 0x2000 && t.sp == 0xFFFF && t.memRead 0x0000 == 0x01 && t.memRead 0xFFFF ==
        0x03 && t.cycles == 24) = true := by
  decide

theorem test_vector_J16 :
  becomes (at0100 usual [0xC8] |>.setF 0x80 |>.setSp 0xCFFE |>.memWrite 0xCFFE 0x03 |>.memWrite
      0xCFFF 0x01)
    (fun t => t.pc == 0x0103 && t.sp == 0xD000 && t.cycles == 20) = true := by
  decide

theorem test_vector_J17 :
  becomes (at0100 usual [0xC8] |>.setF 0x00 |>.setSp 0xCFFE |>.memWrite 0xCFFE 0x03 |>.memWrite
      0xCFFF 0x01)
    (fun t => t.pc == 0x0101 && t.sp == 0xCFFE && t.cycles == 8) = true := by
  decide

theorem test_vector_J19 :
  becomes (at0100 usual [0xD9] |>.setIme .pendingInstructionCompletion |>.setSp 0xFFFF
      |>.memWrite 0xFFFF 0x34 |>.memWrite 0x0000 0x12)
    (fun t => t.pc == 0x1234 && t.sp == 0x0001 && t.ime == .set && t.cycles == 16) = true := by
  decide

theorem test_vector_J21 :
  becomes (at0100 usual [0xC7] |>.setSp 0x0000)
    (fun t => t.pc == 0x0000 && t.sp == 0xFFFE && t.memRead 0xFFFF == 0x01 && t.memRead 0xFFFE ==
        0x01 && t.cycles == 16) = true := by
  decide

/-! #### Vectors Y: system instructions. -/

theorem test_vector_Y2 :
  becomes (at0100 usual [0xF3] |>.setIme .set)
    (fun t => t.ime == .unset && t.cycles == 4 && t.pc == 0x0101) = true := by
  decide

theorem test_vector_Y5 :
  becomes (at0100 usual [0xFB] |>.setIme .set)
    (fun t => t.ime == .pendingInstructionCompletion && t.cycles == 4 && t.pc == 0x0101) = true :=
        by
  decide

theorem test_vector_Y7 :
  becomes (at0100 usual [0x76] |>.setIme .set)
    (fun t => t.pc == 0x0101 && t.halted == true && t.ime == .set && t.cycles == 4) = true := by
  decide

theorem test_vector_Y8 : faults (at0100 usual [0x76] |>.setIme .unset) .haltImeNotSet = true := by
  decide

theorem test_vector_Y11 :
  becomes (at0100 usual [0x10, 0xDD])
    (fun t => t.pc == 0x0102 && t.stopped == true && t.cycles == 4) = true := by
  decide

theorem test_vector_Y12 : faults (at0100 usual [0xD3]) .illegalOpcode = true := by
  decide

theorem test_vector_Y13 :
  becomes (at0100 sm83 [0x76] |>.setIme .unset |>.setIe 0x01 |>.setIfl 0x01)
    (fun t => t.pc == 0x0101 && t.halted == false && t.haltBug == true && t.cycles == 4) = true :=
        by
  decide

theorem test_vector_Y14 :
  becomes (at0100 sm83 [0x76] |>.setIme .unset |>.setIe 0x01 |>.setIfl 0x00)
    (fun t => t.pc == 0x0101 && t.halted == true && t.haltBug == false && t.cycles == 4) = true :=
        by
  decide

/-! #### Vectors L: 8-bit loads. -/

theorem test_vector_L1 :
  becomes (at0100 usual [0x47] |>.setReg .a 0x5A)
    (fun t => t.regs.b == 0x5A && t.cycles == 4 && t.pc == 0x0101) = true := by
  decide

theorem test_vector_L2 :
  becomes (at0100 usual [0x66] |>.setHl 0xC000 |>.memWrite 0xC000 0x5C)
    (fun t => t.hl == 0x5C00 && t.cycles == 8 && t.pc == 0x0101) = true := by
  decide

theorem test_vector_L3 :
  becomes (at0100 usual [0x75] |>.setHl 0xC0AB)
    (fun t => t.memRead 0xC0AB == 0xAB && t.cycles == 8 && t.pc == 0x0101) = true := by
  decide

theorem test_vector_L5 :
  becomes (at0100 usual [0x36, 0x77] |>.setHl 0xE123)
    (fun t => t.memRead 0xE123 == 0x77 && t.memRead 0xC123 == 0x77 && t.cycles == 12 && t.pc ==
        0x0102) = true := by
  decide

theorem test_vector_L7 :
  becomes (at0100 usual [0x1A] |>.setDe 0xFF00 |>.setReg .a 0x00)
    (fun t => t.regs.a == 0x0F && t.cycles == 8 && t.pc == 0x0101) = true := by
  decide

theorem test_vector_L10 :
  becomes (at0100 usual [0x22] |>.setHl 0xFFFF |>.setReg .a 0x1F)
    (fun t => t.hl == 0x0000 && t.memRead 0xFFFF == 0x1F && t.cycles == 8 && t.pc == 0x0101) =
        true := by
  decide

theorem test_vector_L11 :
  becomes (at0100 usual [0x32] |>.setHl 0x0000 |>.setReg .a 0x42)
    (fun t => t.hl == 0xFFFF && t.memRead 0x0000 == 0x42 && t.cycles == 8 && t.pc == 0x0101) =
        true := by
  decide

theorem test_vector_L12 :
  becomes (at0100 usual [0x2A] |>.setHl 0xDFFF |>.memWrite 0xDFFF 0x9C)
    (fun t => t.regs.a == 0x9C && t.hl == 0xE000 && t.cycles == 8 && t.pc == 0x0101) = true := by
  decide

theorem test_vector_L15 :
  becomes (at0100 usual [0xE0, 0x00] |>.setReg .a 0x2A)
    (fun t => t.memRead 0xFF00 == 0x2F && t.cycles == 12 && t.pc == 0x0102) = true := by
  decide

theorem test_vector_L16 :
  becomes (at0100 usual [0xF0, 0x44] |>.setReg .a 0xFF)
    (fun t => t.regs.a == 0x00 && t.cycles == 12 && t.pc == 0x0102) = true := by
  decide

theorem test_vector_L18 :
  becomes (at0100 usual [0xE2] |>.setReg .c 0x0F |>.setReg .a 0x05)
    (fun t => t.memRead 0xFF0F == 0x05 && t.cycles == 8 && t.pc == 0x0101) = true := by
  decide

theorem test_vector_L21 :
  becomes (at0100 usual [0xFA, 0x00, 0xE0] |>.memWrite 0xC000 0x7B)
    (fun t => t.regs.a == 0x7B && t.cycles == 16 && t.pc == 0x0103) = true := by
  decide

/-! #### Vectors K: 16-bit loads and stack. -/

theorem test_vector_K1 :
  becomes (at0100 usual [0x01, 0x34, 0x12])
    (fun t => t.regs.b == 0x12 && t.regs.c == 0x34 && t.cycles == 12 && t.pc == 0x0103) = true := by
  decide

theorem test_vector_K4 :
  becomes (at0100 usual [0x08, 0xFF, 0xFF] |>.setSp 0xABCD)
    (fun t => t.memRead 0xFFFF == 0xCD && t.memRead 0x0000 == 0xAB && t.cycles == 20 && t.pc ==
        0x0103) = true := by
  decide

theorem test_vector_K6 :
  becomes (at0100 usual [0xF8, 0x02] |>.setF 0xF0 |>.setSp 0xFFF8)
    (fun t => t.hl == 0xFFFA && t.sp == 0xFFF8 && t.regs.f == 0x00 && t.cycles == 12 && t.pc ==
        0x0102) = true := by
  decide

theorem test_vector_K8 :
  becomes (at0100 usual [0xF8, 0x01] |>.setSp 0xFFFF)
    (fun t => t.hl == 0x0000 && t.regs.f == 0x30 && t.cycles == 12 && t.pc == 0x0102) = true := by
  decide

theorem test_vector_K10 :
  becomes (at0100 usual [0xF5] |>.setReg .a 0x9A |>.setF 0xB0 |>.setSp 0xD000)
    (fun t => t.sp == 0xCFFE && t.memRead 0xCFFF == 0x9A && t.memRead 0xCFFE == 0xB0 && t.cycles
        == 16 && t.pc == 0x0101) = true := by
  decide

theorem test_vector_K11 :
  becomes (at0100 usual [0xE5] |>.setHl 0xBEEF |>.setSp 0x0000)
    (fun t => t.sp == 0xFFFE && t.memRead 0xFFFF == 0xBE && t.memRead 0xFFFE == 0xEF && t.cycles
        == 16 && t.pc == 0x0101) = true := by
  decide

theorem test_vector_K13 :
  becomes (at0100 usual [0xF1] |>.setSp 0xDFFC |>.memWrite 0xDFFC 0xFF |>.memWrite 0xDFFD 0x12)
    (fun t => t.regs.a == 0x12 && t.regs.f == 0xF0 && t.sp == 0xDFFE && t.cycles == 12 && t.pc ==
        0x0101) = true := by
  decide

theorem test_vector_K15 :
  becomes (at0100 usual [0xE1] |>.setSp 0xFFFF |>.memWrite 0xFFFF 0x34 |>.memWrite 0x0000 0x12)
    (fun t => t.hl == 0x1234 && t.sp == 0x0001 && t.cycles == 12 && t.pc == 0x0101) = true := by
  decide

/-! ### Memory and timer (`95_test_vectors.md` sections 8 and 9) -/

theorem test_memory_M1_M2_echo :
    ((State.reset.memWrite 0xC123 0x5A).memRead 0xE123 = 0x5A) ∧
      ((State.reset.memWrite 0xFDFF 0x77).memRead 0xDDFF = 0x77) := by
  decide

theorem test_memory_M3_unusable :
    let s := (State.reset.memWrite 0xFEA0 0xFF).memWrite 0xFEFF 0x12
    s.memRead 0xFEA0 = 0x00 ∧ s.memRead 0xFEFF = 0x00 := by
  decide

theorem test_memory_M4_rom_is_storage :
    let s := (State.reset.memWrite 0x0000 0x3C).memWrite 0x7FFF 0x3D
    s.memRead 0x0000 = 0x3C ∧ s.memRead 0x7FFF = 0x3D := by
  decide

theorem test_memory_M9_joypad :
    (State.reset.memWrite 0xFF00 0xFF).memRead 0xFF00 = 0xFF ∧
      (State.reset.memWrite 0xFF00 0x10).memRead 0xFF00 = 0x1F ∧
      (State.reset.memWrite 0xFF00 0x00).memRead 0xFF00 = 0x0F := by
  decide

theorem test_memory_M11_stubs :
    ([0xFF26, 0xFF4F, 0xFF40, 0xFF01] : List Word).all
      (fun a => (State.reset.memWrite a 0x91).memRead a == 0x00) = true := by
  decide

/-- A timer with the given bytes, its accumulators empty. -/
def timed (tac tima tma : Byte) : State :=
  State.reset.setTimer { div := 0, divAcc := 0, tima := tima, timaAcc := 0, tma := tma, tac := tac }

theorem test_timer_M13_divider_write :
    let s := (State.reset.setTimer { State.reset.timer with div := 0x7F, divAcc := 200 }).memWrite
      0xFF04 0x55
    s.memRead 0xFF04 = 0x7F ∧ s.timer.divAcc = 0 ∧
      ((s.tick 255).tick 1).timer.div = 0x80 := by
  decide

theorem test_timer_T1_T2_reload :
    let s := (timed 0x05 0xFE 0xFE).tick 16
    s.timer.tima = 0xFF ∧ s.ifl = 0x00 ∧ (s.tick 16).timer.tima = 0xFE ∧ (s.tick 16).ifl = 0x04 := by
  decide

theorem test_timer_T6_three_wraps :
    let s := (timed 0x05 0xFF 0xFF).tick 48
    s.timer.tima = 0xFF ∧ s.ifl = 0x04 ∧ s.timer.timaAcc = 0 := by
  decide

theorem test_timer_T8_periods :
    ([(0x04, 1024), (0x05, 16), (0x06, 64), (0x07, 256)] : List (Byte × Nat)).all (fun p =>
      ((timed p.1 0x00 0x00).tick (p.2 - 1)).timer.tima == 0x00 &&
        (((timed p.1 0x00 0x00).tick (p.2 - 1)).tick 1).timer.tima == 0x01) = true := by
  decide

theorem test_timer_T9_disabled :
    let s := (timed 0x01 0x00 0x00).tick 1000
    s.timer.tima = 0x00 ∧ s.timer.timaAcc = 0 ∧ s.timer.div = 0x03 ∧ s.timer.divAcc = 232 := by
  decide

/-! ### Steps (`95_test_vectors.md` section 10; the state before each step is the listed one) -/

theorem test_step_Q4_interrupt_after_one_instruction :
    stepsTo (at0100 usual [0x3C] |>.setIme .pendingInstructionCompletion |>.setSp 0xD000 |>.setIe 0x01
      |>.setIfl 0x01)
      (fun t => t.regs.a == 0x01 && t.ime == .unset && t.ifl == 0x00 && t.memRead 0xCFFF == 0x01 &&
        t.memRead 0xCFFE == 0x01 && t.sp == 0xCFFE && t.pc == 0x0040 &&
        t.timer.divAcc == 24) = true := by
  decide

theorem test_step_Q6_reti_enables_at_once :
    stepsTo (storeBytes State.reset 0x0040 [0xD9] |>.setPc 0x0040 |>.setSp 0xCFFE
      |>.memWrite 0xCFFE 0x01 |>.memWrite 0xCFFF 0x01 |>.setIe 0x1F |>.setIfl 0x1E)
      (fun t => t.pc == 0x0048 && t.ifl == 0x1C && t.sp == 0xCFFE && t.memRead 0xCFFF == 0x01 &&
        t.memRead 0xCFFE == 0x01 && t.timer.divAcc == 36) = true := by
  decide

theorem test_step_Q8_host_request :
    stepsTo (at0100 usual [0x00] |>.setIme .set |>.setSp 0xD000 |>.setIe 0x01
      |>.setHost [{ raise := 0x01, buttons := none, wake := false }])
      (fun t => t.pc == 0x0040 && t.ifl == 0x00 && t.memRead 0xCFFF == 0x01 &&
        t.memRead 0xCFFE == 0x01 && t.ime == .unset && t.host == []) = true := by
  decide

theorem test_step_Q9_timer_ends_halt :
    stepsTo (at0100 usual [] |>.setPc 0x0101 |>.setHalted true |>.setIme .set |>.setSp 0xD000
      |>.setIe 0x04
      |>.setTimer { div := 0, divAcc := 12, tima := 0xFF, timaAcc := 12, tma := 0x80, tac := 0x05 })
      (fun t => t.halted == false && t.pc == 0x0050 && t.ifl == 0x00 && t.memRead 0xCFFE == 0x01 &&
        t.timer.divAcc == 36) = true := by
  decide

theorem test_step_Q11_stopped :
    stepsTo (at0100 usual [0x3C] |>.setStopped true)
      (fun t => t == (at0100 usual [0x3C] |>.setStopped true)) = true ∧
    stepsTo (at0100 usual [0x3C] |>.setStopped true
      |>.setHost [{ raise := 0x00, buttons := none, wake := true }])
      (fun t => t == at0100 usual [0x3C]) = true := by
  decide

theorem test_step_Q12_di_protects :
    stepsTo (at0100 usual [0xF3] |>.setIme .set |>.setIe 0x01 |>.setIfl 0x01 |>.setSp 0xD000)
      (fun t => t.ime == .unset && t.pc == 0x0101 && t.ifl == 0x01 && t.sp == 0xD000) = true := by
  decide

theorem test_step_Q14_haltBug_reads_twice :
    stepsTo (at0100 sm83 [0x3C] |>.setHaltBug true |>.setIe 0x01 |>.setIfl 0x01)
      (fun t => t.regs.a == 0x01 && t.pc == 0x0100 && t.haltBug == false) = true := by
  decide

theorem test_step_Q16_dispatch_clears_haltBug :
    stepsTo (at0100 sm83 [0x76] |>.setIme .pendingInstructionCompletion |>.setSp 0xD000 |>.setIe 0x01
      |>.setIfl 0x01)
      (fun t => t.haltBug == false && t.halted == false && t.pc == 0x0040 &&
        t.memRead 0xCFFE == 0x01 && t.ime == .unset) = true := by
  decide

theorem test_fetch_wraps_at_the_top :
    becomes (State.reset |>.memWrite 0xFFFF 0x3E |>.memWrite 0x0000 0x5A |>.setPc 0xFFFF)
      (fun t => t.regs.a == 0x5A && t.pc == 0x0001) = true := by
  decide

/-! ### The table's words and the first step after reset -/

theorem test_table_words :
    decodeTableWord 8 0x41 = some .ldB_C ∧ decodeTableWord 24 0x3A5B21 = some (.ldHL_NN 0x3A5B) ∧
      decodeTableWord 16 0x11CB = some .rlC ∧ decodeTableWord 8 0xD3 = some (.illegal 0xD3) := by
  decide

theorem test_placed_word_runs :
    stepsTo (State.reset.withFetchWord 16 0x5A3E)
      (fun t => t.regs.a == 0x5A && t.pc == 0x0002 && t.cycles == 8) = true := by
  decide

/-! ### Witnesses -/

/-- A state with something in every register and with bytes to run. -/
def sample : State :=
  at0100 usual [0x3C, 0x3E, 0x5A] |>.setRegs ⟨0x12, 0xF0, 0x34, 0x56, 0x78, 0x9A, 0xC0, 0x10⟩
    |>.setSp 0xD000

/-- A host input that wakes a stopped core, or does not. -/
def input (wake : Bool) : HostInput := { raise := 0xFF, buttons := some 0x5, wake := wake }

theorem witness_EncodeThenDecode :
    (Instr.ldHL_NN 0xFFFF).wellFormed = true ∧ (Instr.illegal 0xFD).wellFormed = true := by
  decide

theorem witness_DecodeThenEncode : decode [0x3E, 0xFF, 0x99] = .ok (.ldA_N 0xFF, [0x99]) := rfl

theorem witness_IllegalFirstBytesFault :
    decodeBytes 0xFD 0x00 0x00 = .illegal 0xFD ∧ decodeBytes 0xDE 0x00 0x00 = .sbcA_N 0x00 :=
  ⟨rfl, rfl⟩

theorem witness_StepRunsTheDecodedInstruction_one_byte :
    sample.stopped = false ∧ sample.halted = false ∧ sample.haltBug = false ∧
      decode [sample.memRead sample.pc, sample.memRead (sample.pc + 1),
        sample.memRead (sample.pc + 2)] = .ok (.incA, [0x3E, 0x5A]) :=
  ⟨rfl, rfl, rfl, rfl⟩

theorem witness_StepRunsTheDecodedInstruction_three_bytes_at_the_top :
    let s := storeBytes (State.reset.setPc 0xFFFE) 0xFFFE [0xC3, 0x34, 0x12]
    s.stopped = false ∧ s.halted = false ∧ s.haltBug = false ∧
      decode [s.memRead s.pc, s.memRead (s.pc + 1), s.memRead (s.pc + 2)] =
        .ok (.jpNN 0x1234, []) :=
  ⟨rfl, rfl, rfl, rfl⟩

theorem witness_HaltBugReadsTheNextByteTwice : (sample.setHaltBug true).haltBug = true := rfl

theorem witness_HaltedStepIdlesUntilARequest_idle :
    let s := sample.setHalted true
    s.stopped = false ∧ s.halted = true ∧ s.host = [] ∧
      (s.tick 4).ie &&& (s.tick 4).ifl &&& 0x1F = 0 := by
  decide

theorem witness_HaltedStepIdlesUntilARequest_wake :
    let s := ((sample.setHalted true).setIe 0x10).setIfl 0x10
    s.stopped = false ∧ s.halted = true ∧ s.host = [] ∧
      (s.tick 4).ie &&& (s.tick 4).ifl &&& 0x1F ≠ 0 ∧ s.ime ≠ .set := by
  decide

theorem witness_HaltedStepIdlesUntilARequest_dispatch :
    let s := (((sample.setHalted true).setIe 0x04).setIme .set).setTimer
      { div := 0, divAcc := 0, tima := 0xFF, timaAcc := 12, tma := 0, tac := 0x05 }
    s.stopped = false ∧ s.halted = true ∧ s.host = [] ∧
      (s.tick 4).firstPending = some .timer ∧ s.ime = .set := by
  decide

theorem witness_StoppedStepIsHeldUntilTheHostWakes :
    let s := sample.setStopped true
    s.stopped = true ∧ s.host = [] ∧
      (s.setHost [input false]).host = input false :: [] ∧ (input false).wake = false ∧
      (s.setHost [input true]).host = input true :: [] ∧ (input true).wake = true := by
  decide

theorem witness_HostInputEffectAndPlace :
    (input true).buttons = some 0x5 ∧
      ({ raise := 0, buttons := none, wake := false } : HostInput).buttons = none ∧
      sample.host = [] ∧ (sample.setHost [input false]).host = input false :: [] := by
  decide

theorem witness_RegistersPairsAndFlagsKeepWhatIsWritten : Reg8.h ≠ Reg8.l := by decide

theorem witness_EachRegionIsReadAsTheMapSays :
    (0xDFFF : Word).toNat ≤ 0xDFFF ∧
      0xE000 ≤ (0xE000 : Word).toNat ∧ (0xFDFF : Word).toNat ≤ 0xFDFF ∧
      0xFE00 ≤ (0xFE00 : Word).toNat ∧ (0xFE9F : Word).toNat ≤ 0xFE9F ∧
      0xFEA0 ≤ (0xFEA0 : Word).toNat ∧ (0xFEFF : Word).toNat ≤ 0xFEFF ∧
      0xFF80 ≤ (0xFF80 : Word).toNat ∧ (0xFFFE : Word).toNat ≤ 0xFFFE := by
  decide

theorem witness_EachRegionIsReadAsTheMapSays_values :
    let s := (sample.memWrite 0xDFFF 0x11).memWrite 0xFE9F 0x22 |>.memWrite 0xFFFE 0x33
      |>.memWrite 0xC000 0x44
    s.mem.get 0xDFFF = 0x11 ∧ s.mem.get 0xFE9F = 0x22 ∧ s.mem.get 0xFFFE = 0x33 ∧
      s.memRead 0xE000 = 0x44 ∧ s.mem.get (0xE000 - 0x2000) = 0x44 := by
  decide

theorem witness_WritableBytesReadBack :
    (0xFE9F : Word).toNat < 0xFEA0 ∧ 0xFF80 ≤ (0xFF80 : Word).toNat ∧
      0xFF80 ≤ (0xFFFF : Word).toNat ∧
      ([0xFF05, 0xFF06, 0xFF07, 0xFF0F] : List Word).all
        (fun a => (sample.memWrite a 0xA5).memRead a == 0xA5) = true := by
  decide

theorem witness_AWriteChangesOnlyTheSelectedByte :
    ¬ SameByte 0xE000 0xC001 ∧ SameByte 0xE000 0xC000 ∧ ¬ SameByte 0xFF05 0xFF04 ∧
      ¬ SameByte 0xFEA0 0xFE9F := by
  decide

theorem witness_OnlyTheEchoAliasesWorkRam :
    (0xFE9F : Word).toNat < 0xFEA0 ∧ 0xFF80 ≤ (0xFF80 : Word).toNat ∧
      SameByte 0xFDFF 0xDDFF ∧ ¬ SameByte 0xFE00 0xDE00 ∧ ¬ SameByte 0xFF80 0xFF00 := by
  decide

theorem witness_UnusableRegionReadsZeroAndDiscardsWrites :
    0xFEA0 ≤ (0xFEA0 : Word).toNat ∧ (0xFEA0 : Word).toNat ≤ 0xFEFF ∧
      0xFEA0 ≤ (0xFEFF : Word).toNat ∧ (0xFEFF : Word).toNat ≤ 0xFEFF := by
  decide

theorem witness_InterruptEnableIsAPlainByte :
    (sample.setSp 0x0000).sp = 0x0000 ∧
      ((sample.setSp 0x0000).push16 0xBEEF).memRead 0xFFFF = 0xBE := by
  decide

theorem witness_DeviceBytesAndStubs :
    ([0xFF01, 0xFF03, 0xFF08, 0xFF0E, 0xFF10, 0xFF3F, 0xFF40, 0xFF4E, 0xFF4F, 0xFF77, 0xFF78,
      0xFF7F] : List Word).all (fun a => decide (0xFF00 ≤ a.toNat ∧ a.toNat ≤ 0xFF7F ∧
        a ∉ ([0xFF00, 0xFF04, 0xFF05, 0xFF06, 0xFF07, 0xFF0F] : List Word))) = true := by
  decide

/-- With a parameter that is not the default, the unlisted address reads it and the two ranges still
read zero. -/
theorem witness_DeviceBytesAndStubs_parameter :
    let s := State.powerOn
      { usual with ioStub := [(0xFF0E, 0x77), (0xFF40, 0xFF), (0xFF4F, 0xFF)] } [] []
    s.memRead 0xFF0E = 0x77 ∧ s.memRead 0xFF40 = 0xFF ∧ s.memRead 0xFF4F = 0x00 := by
  decide

/-- Both clauses of an enabled counter at the place where they meet. -/
theorem witness_CounterClosedForm_enabled :
    (timed 0x05 0xFE 0xFE).timer.tac.getLsbD 2 = true ∧
      16 = ([1024, 16, 64, 256] : List Nat).getD ((timed 0x05 0xFE 0xFE).timer.tac.toNat % 4) 0 ∧
      255 = (timed 0x05 0xFE 0xFE).timer.tima.toNat +
        ((timed 0x05 0xFE 0xFE).timer.timaAcc + 31) / 16 ∧
      256 = (timed 0x05 0xFE 0xFE).timer.tima.toNat +
        ((timed 0x05 0xFE 0xFE).timer.timaAcc + 32) / 16 := by
  decide

theorem witness_CounterClosedForm_disabled : (timed 0x03 0xFF 0xFE).timer.tac.getLsbD 2 = false := by
  decide

theorem witness_ATickChangesOnlyTheTimer :
    (⟨1, by decide⟩ : Fin 8).val ≠ 2 ∧ (sample.setIfl 0x04).ifl.getLsbD 2 = true := by
  decide

theorem witness_DiForcesUnsetAtOnce :
    let s := (at0100 usual [0xF3]).setIme .set
    s.stopped = false ∧ s.halted = false ∧ s.fetchInstr.1 = .di := by
  decide

theorem witness_EpilogueMovesImeByOneState_runs :
    sample.stopped = false ∧ sample.halted = false ∧
      ∃ t, exec sample.fetchInstr.1 sample.fetchInstr.2 = .next t :=
  ⟨rfl, rfl, _, rfl⟩

theorem witness_EpilogueMovesImeByOneState_idle_and_stopped :
    (sample.setHalted true).stopped = false ∧ (sample.setHalted true).halted = true ∧
      (sample.setStopped true).stopped = true := by
  decide

theorem witness_EpilogueMovesImeByOneState_after_ei :
    (sample.ime = .unset ∧ ∃ t, exec .ei sample = .next t) ∧
      (sample.setIme .pendingInstructionCompletion).ime = .pendingInstructionCompletion ∧
      Instr.nop ≠ .di ∧ ∃ t, exec .nop (sample.setIme .pendingInstructionCompletion) = .next t :=
  ⟨⟨rfl, _, rfl⟩, rfl, by decide, _, rfl⟩

theorem witness_OnlyDiEiRetiWriteIme :
    (∃ t, exec .reti sample = .next t) ∧ ∃ t, exec .ldB_C sample = .next t :=
  ⟨⟨_, rfl⟩, _, rfl⟩

theorem witness_EiIsDelayedByOneInstruction_from_unset :
    let s := (((at0100 sm83 [0xFB]).setIe 0x1F).setIfl 0x1F).setHaltBug true
    s.stopped = false ∧ s.halted = false ∧
      (s.ime = .unset ∨ (s.ime = .set ∧ s.cfg.eiFromSet = .restart)) ∧
      s.memRead s.pc = 0xFB := by
  decide

theorem witness_EiIsDelayedByOneInstruction_from_set :
    let s := (((at0100 usual [0xFB]).setIe 0x1F).setIfl 0x1F).setIme .set
    s.stopped = false ∧ s.halted = false ∧ s.ime = .set ∧ s.cfg.eiFromSet = .restart ∧
      s.memRead s.pc = 0xFB := by
  decide

theorem witness_LowestEnabledRequestIsDispatched_dispatch :
    let s := ((sample.setIme .set).setIe 0xF8).setIfl 0xFF
    s.ime = .set ∧ (s.ie &&& s.ifl).getLsbD IrqSource.serial.number = true ∧
      ((s.ie &&& s.ifl).getLsbD IrqSource.verticalBlank.number = false ∧
        (s.ie &&& s.ifl).getLsbD IrqSource.displayStatus.number = false ∧
        (s.ie &&& s.ifl).getLsbD IrqSource.timer.number = false) := by
  decide

theorem witness_LowestEnabledRequestIsDispatched_no_dispatch :
    let s := (sample.setIe 0x10).setIfl 0x10
    let t := ((sample.setIme .set).setIe 0xFF).setIfl 0xE0
    (s.ime ≠ .set ∧ s.ie &&& s.ifl &&& 0x1F ≠ 0) ∧ t.ie &&& t.ifl &&& 0x1F = 0 := by
  decide

theorem witness_DispatchEffect :
    IrqSource.joypad =
      ([.verticalBlank, .displayStatus, .timer, .serial, .joypad] : List IrqSource).get
        ⟨4, by decide⟩ := rfl

theorem witness_RetiReturnsFromDispatch :
    target (sample.sp - 1) = .storage 0xCFFF ∧ target (sample.sp - 2) = .storage 0xCFFE ∧
      0xCFFF ≠ 0xCFFE := by
  decide

theorem witness_AndXorOr : AluOp.or ∈ ([.and, .xor, .or] : List AluOp) := by decide

theorem witness_DaaGivesDecimalSumsAndDifferences :
    let s := (sample.setReg .a 0x99).setF 0x10
    s.cfg.daaVariant = .sm83 ∧ s.regs.a = BitVec.ofNat 8 (16 * (99 / 10) + 99 % 10) ∧
      1 = s.flagC.toNat := by
  decide

theorem witness_HaltByImeAndPolicy :
    let s := (at0100 sm83 []).setIe 0x1F
    let t := s.setIfl 0x10
    (sample.setIme .set).ime = .set ∧
      (sample.ime ≠ .set ∧ sample.cfg.haltPolicy = .fault) ∧
      (s.ime ≠ .set ∧ s.cfg.haltPolicy = .sm83 ∧ s.ie &&& s.ifl &&& 0x1F = 0) ∧
      (t.ime ≠ .set ∧ t.cfg.haltPolicy = .sm83 ∧ t.ie &&& t.ifl &&& 0x1F ≠ 0) := by
  decide

theorem witness_OnlyIllegalBytesAndHaltStop :
    (∃ r, step (at0100 usual [0xD3]) = .fault r) ∧ ∃ r, step (at0100 usual [0x76]) = .fault r :=
  ⟨⟨_, rfl⟩, _, rfl⟩

theorem witness_EveryInstructionCompletes :
    (∀ op, Instr.halt ≠ .illegal op) ∧
      (Instr.halt = .halt → (sample.setIme .set).ime = .set ∨
        (sample.setIme .set).cfg.haltPolicy = .sm83) :=
  ⟨fun _ h => (nomatch (congrArg Instr.form h : Form.halt = Form.illegal _)),
    fun _ => Or.inl rfl⟩

theorem witness_FlagsFrame :
    (∃ t, exec .popAF sample = .next t) ∧ ∃ t, exec .bit7_AtHL sample = .next t :=
  ⟨⟨_, rfl⟩, _, rfl⟩

theorem witness_RegistersFrame :
    (∃ t, exec .ldAtHLI_A sample = .next t) ∧
      Reg8.a ∉ Instr.ldAtHLI_A.effect.destRegs ∧ Instr.ldAtHLI_A.effect.writesSp = false ∧
      Instr.ldAtHLI_A.effect.transfers = false :=
  ⟨⟨_, rfl⟩, by decide, by decide, by decide⟩

theorem witness_MemoryFrame : ∃ t, exec (.callNN 0x2000) sample = .next t := ⟨_, rfl⟩

theorem witness_MemoryFrame_addresses :
    sample.storedAt (Instr.callNN 0x2000).effect = [0xCFFF, 0xCFFE] := by
  decide

theorem witness_MemoryFrame_other_address :
    ¬ SameByte 0xEFFD 0xCFFF ∧ ¬ SameByte 0xEFFD 0xCFFE := by
  decide

theorem witness_HiddenStateFrame :
    (∃ t, exec .incAtHL (sample.setHl 0xFF04) = .next t) ∧ Instr.incAtHL ≠ .halt ∧
      0xFF04 ∈ (sample.setHl 0xFF04).storedAt Instr.incAtHL.effect ∧
      (∃ t, exec .nop sample = .next t) ∧ 0xFF04 ∉ sample.storedAt Instr.nop.effect :=
  ⟨⟨_, rfl⟩, by decide, by decide, ⟨_, rfl⟩, by decide⟩

theorem witness_HiddenStateFrame_not_stop : ∀ pad, Instr.incAtHL ≠ .stop pad :=
  fun pad h => nomatch (congrArg Instr.form h : Form.inc8 .atHL = Form.stop pad)

theorem witness_CyclesFollowTheTable :
    (∃ t, exec (.callNZ_NN 0x2000) sample = .next t) ∧
      ∃ t, exec (.callZ_NN 0x2000) sample = .next t :=
  ⟨⟨_, rfl⟩, _, rfl⟩

theorem witness_InvariantAtPowerOn : Memory.wf [(0x0000, 0x3C), (0xFFFE, 0xFF)] := by decide

theorem witness_EveryStepKeepsTheInvariant : sample.Inv ∧ ∃ t, step sample = .next t :=
  ⟨{ flagsLow := by decide, memory := by decide, divAcc := by decide, timaAcc := by decide,
     ime := by decide, oneLowPower := by decide, haltBug := by decide, haltedIme := by decide },
    _, rfl⟩

end Sys2Proof.Tests
end

section
/-!
PROOFS. The memory statements: the unusable region, the counter and modulo registers, and the
interrupt-enable byte with the push that reaches it.
-/

namespace Sys2Proof

/-! ### Bytes of a word as bit fields -/

theorem hiByte_eq_extractLsb' (w : Word) : hiByte w = w.extractLsb' 8 8 := by
  apply BitVec.eq_of_toNat_eq
  simp [hiByte, Nat.shiftRight_eq_div_pow]

theorem loByte_eq_extractLsb' (w : Word) : loByte w = w.extractLsb' 0 8 := by
  apply BitVec.eq_of_toNat_eq
  simp [loByte]

namespace Machine

/-! ### Regions -/

/-- The regions do not overlap: of two, one ends before the other begins (R52). -/
theorem Region.bounds_disjoint (r q : Region) :
    r ≠ q → r.bounds.2 < q.bounds.1 ∨ q.bounds.2 < r.bounds.1 := by
  cases r <;> cases q <;> decide

/-- An address is in a region exactly when it lies between the region's bounds (R52). -/
theorem regionOf_eq_iff (a : Word) (r : Region) :
    regionOf a = r ↔ r.bounds.1 ≤ a.toNat ∧ a.toNat ≤ r.bounds.2 := by
  have hb := regionOf_bounds a
  constructor
  · rintro rfl
    exact hb
  · intro hr
    by_contra hne
    have hd := Region.bounds_disjoint (regionOf a) r hne
    omega

theorem regionOf_eq_interruptEnable_iff (a : Word) :
    regionOf a = .interruptEnable ↔ a = 0xFFFF := by
  rw [regionOf_eq_iff]
  simp only [Region.bounds]
  bv_omega

theorem target_eq_unusable (a : Word) (h1 : 0xFEA0 ≤ a.toNat) (h2 : a.toNat ≤ 0xFEFF) :
    target a = .unusable := by
  have hr : regionOf a = .unusable := (regionOf_eq_iff a .unusable).2 ⟨h1, h2⟩
  simp [target, hr]

/-! ### Reads and writes of a device, by the target an address selects -/

section
variable (s : State) {a : Word} (v : Byte)

theorem State.memRead_of_unusable (h : target a = .unusable) : s.memRead a = 0x00 := by
  simp [State.memRead, h]

theorem State.memWrite_of_unusable (h : target a = .unusable) : s.memWrite a v = s := by
  simp [State.memWrite, h]

theorem State.memRead_of_counter (h : target a = .counter) : s.memRead a = s.timer.tima := by
  simp [State.memRead, h]

theorem State.memWrite_of_counter (h : target a = .counter) :
    s.memWrite a v = s.setTimer { s.timer with tima := v } := by
  simp [State.memWrite, h]

theorem State.memRead_of_modulo (h : target a = .modulo) : s.memRead a = s.timer.tma := by
  simp [State.memRead, h]

theorem State.memWrite_of_modulo (h : target a = .modulo) :
    s.memWrite a v = s.setTimer { s.timer with tma := v } := by
  simp [State.memWrite, h]

theorem State.memRead_of_interruptEnable (h : target a = .interruptEnable) :
    s.memRead a = s.ie := by
  simp [State.memRead, h]

theorem State.memWrite_of_interruptEnable (h : target a = .interruptEnable) :
    s.memWrite a v = s.setIe v := by
  simp [State.memWrite, h]

end

theorem target_counterAddress : target 0xFF05 = .counter := by decide

theorem target_moduloAddress : target 0xFF06 = .modulo := by decide

theorem target_interruptEnableAddress : target 0xFFFF = .interruptEnable := by decide

/-! ### The push -/

@[simp] theorem State.setSp_setSp (s : State) (v w : Word) : (s.setSp v).setSp w = s.setSp w := rfl

/-- A write does not depend on SP and leaves it alone. -/
theorem State.memWrite_setSp (s : State) (w a : Word) (v : Byte) :
    (s.setSp w).memWrite a v = (s.memWrite a v).setSp w := by
  simp only [State.memWrite]
  split <;> rfl

/-- A push is two writes, the high byte first, and SP two lower (R11, R71). -/
theorem State.push16_eq (s : State) (v : Word) :
    s.push16 v =
      ((s.memWrite (decWord s.sp) (hiByte v)).memWrite (decWord (decWord s.sp)) (loByte v)).setSp
        (decWord (decWord s.sp)) := by
  simp [State.push16, State.memWrite_setSp]

/-! ### The statements -/

/-- Settles O16: the region's addresses select nothing, whatever the state. -/
theorem unusableRegionReadsZeroAndDiscardsWrites :
    Obligations.UnusableRegionReadsZeroAndDiscardsWrites := by
  intro s a h1 h2
  have ht : target a = .unusable := target_eq_unusable a h1 h2
  exact ⟨s.memRead_of_unusable ht, fun v => s.memWrite_of_unusable v ht,
    fun b v => (s.memWrite b v).memRead_of_unusable ht⟩

/-- Settles O17: the two addresses select the counter and the modulo register. -/
theorem counterAndModuloAreReadAndWrittenDirectly :
    Obligations.CounterAndModuloAreReadAndWrittenDirectly := fun s v =>
  ⟨s.memRead_of_counter target_counterAddress, s.memWrite_of_counter v target_counterAddress,
    s.memRead_of_modulo target_moduloAddress, s.memWrite_of_modulo v target_moduloAddress⟩

/-- Settles O18: the region's bounds meet at 0xFFFF, which is where SP goes from 0x0000. -/
theorem interruptEnableIsAPlainByte : Obligations.InterruptEnableIsAPlainByte := by
  intro s v w
  refine ⟨s.memRead_of_interruptEnable target_interruptEnableAddress,
    s.memWrite_of_interruptEnable v target_interruptEnableAddress,
    regionOf_eq_interruptEnable_iff, fun a => regionOf_eq_iff a .io, fun hsp => ?_⟩
  have hfirst : decWord s.sp = 0xFFFF := by rw [hsp]; decide
  have hsecond : decWord 0xFFFF = 0xFFFE := by decide
  rw [State.push16_eq, hfirst, hsecond, hiByte_eq_extractLsb', loByte_eq_extractLsb']

end Machine
end Sys2Proof
end

section
/-!
PROOFS. The statement about DI: what the fetch and the end of a step leave alone, and the step of a
running core whose instruction leaves IME Unset.
-/

namespace Sys2Proof.Machine

/-! ### The fetch -/

@[simp] theorem State.fetch8_sp (s : State) : s.fetch8.2.sp = s.sp := by
  simp only [State.fetch8]; split <;> rfl

@[simp] theorem State.fetch8_regs (s : State) : s.fetch8.2.regs = s.regs := by
  simp only [State.fetch8]; split <;> rfl

@[simp] theorem State.fetchInstr_sp (s : State) : s.fetchInstr.2.sp = s.sp := by
  simp only [State.fetchInstr]; split <;> simp

@[simp] theorem State.fetchInstr_regs (s : State) : s.fetchInstr.2.regs = s.regs := by
  simp only [State.fetchInstr]; split <;> simp

/-! ### The end of a step -/

@[simp] theorem State.hostPhase_ime (s : State) : s.hostPhase.ime = s.ime := by
  rw [State.hostPhase_eq]

@[simp] theorem State.hostPhase_pc (s : State) : s.hostPhase.pc = s.pc := by
  rw [State.hostPhase_eq]

@[simp] theorem State.hostPhase_sp (s : State) : s.hostPhase.sp = s.sp := by
  rw [State.hostPhase_eq]

@[simp] theorem State.hostPhase_regs (s : State) : s.hostPhase.regs = s.regs := by
  rw [State.hostPhase_eq]

/-- Unless IME is Set, the service phase can only end HALT (R290, R303). -/
theorem State.service_eq_of_ime_ne_set (s : State) (h : s.ime ≠ .set) :
    s.service = s.setHalted s.service.halted := by
  obtain ⟨-, hs⟩ | ⟨q, -, hset, -⟩ | ⟨-, -, hs⟩ := s.service_cases
  · rw [hs]; rfl
  · exact absurd hset h
  · rw [hs]; rfl

/-- Unless IME is Set, the end of a step is the host's input and at most a wake: nothing is
dispatched, whatever is pending and enabled (R280, R286, R290). -/
theorem State.finishStep_eq_of_ime_ne_set (s : State) (h : s.ime ≠ .set) :
    s.finishStep = s.hostPhase.setHalted s.finishStep.halted := by
  simp only [State.finishStep]
  split
  · rfl
  · exact s.hostPhase.service_eq_of_ime_ne_set (by simpa using h)

/-! ### The step of a running core -/

/-- A core neither stopped nor halted runs the instruction it fetched, then the epilogue, the tick
of its cost and the end of the step (R280). -/
theorem step_of_running (s t : State) (hstop : s.stopped = false) (hhalt : s.halted = false)
    (ht : exec s.fetchInstr.1 s.fetchInstr.2 = .next t) :
    step s = .next (t.epilogue.tick t.cycles).finishStep := by
  simp [step, runInstr, hstop, hhalt, ht]

/-- The epilogue leaves Unset (R285). -/
theorem State.epilogue_ime_of_unset (s : State) (h : s.ime = .unset) : s.epilogue.ime = .unset := by
  simp [State.epilogue, h, Ime.epilogue]

@[simp] theorem State.epilogue_pc (s : State) : s.epilogue.pc = s.pc := rfl

@[simp] theorem State.epilogue_sp (s : State) : s.epilogue.sp = s.sp := rfl

@[simp] theorem State.epilogue_regs (s : State) : s.epilogue.regs = s.regs := rfl

/-- What follows an operation that leaves IME Unset keeps IME, PC, SP and the registers, whatever is
pending and enabled and whatever the host does (R280, R285, R290). -/
theorem State.finishStep_epilogue_tick_of_unset (t : State) (n : Nat) (h : t.ime = .unset) :
    let u := (t.epilogue.tick n).finishStep
    u.ime = .unset ∧ u.pc = t.pc ∧ u.sp = t.sp ∧ u.regs = t.regs := by
  have hime : t.epilogue.ime = .unset := t.epilogue_ime_of_unset h
  have hne : (t.epilogue.tick n).ime ≠ .set := by simp [hime]
  rw [State.finishStep_eq_of_ime_ne_set _ hne]
  simp [hime]

/-- DI writes Unset to IME and the cost, and nothing else (R221). -/
theorem exec_di (s : State) : exec .di s = .next ((s.setIme .unset).setCycles 4) := rfl

/-- Settles O24: DI leaves Unset, which the epilogue keeps, and the service phase dispatches only
from Set. -/
theorem diForcesUnsetAtOnce : Obligations.DiForcesUnsetAtOnce := by
  refine ⟨fun s => ⟨_, exec_di s, rfl, State.epilogue_ime_of_unset _ rfl⟩,
    fun s hstop hhalt hdi => ?_⟩
  have hexec := exec_di s.fetchInstr.2
  obtain ⟨hime, hpc, hsp, hregs⟩ := State.finishStep_epilogue_tick_of_unset
    ((s.fetchInstr.2.setIme .unset).setCycles 4) 4 rfl
  exact ⟨_, step_of_running s _ hstop hhalt (hdi ▸ hexec), hime, hpc,
    hsp.trans s.fetchInstr_sp, hregs.trans s.fetchInstr_regs⟩

end Sys2Proof.Machine
end

section
/-!
PROOFS. The encoding statements: the decoder against the encoder in both directions, the opcodes
built from operand codes, and the illegal first bytes.
-/

namespace Sys2Proof

open Sys2Proof.Machine

/-! ### The opcodes of the operand codes -/

/-- Settles O3: the encoder's table, row by row. -/
theorem opcodesAreBuiltFromOperandCodes : Obligations.OpcodesAreBuiltFromOperandCodes := by
  refine ⟨?ldRR, ?ldRM, ?ldMR, ?ldRN, ?ldIndA, ?ldAInd, ?ldR16, ?push, ?pop, ?alu, ?aluN, ?inc8,
    ?dec8, ?addHL, ?incR16, ?decR16, ?rot, ?bit, ?res, ?set, ?jrCc, ?retCc, ?jpCc, ?callCc, ?rst⟩
  case ldRR => intro dst r; cases dst <;> cases r <;> rfl
  case ldRM => intro dst; cases dst <;> rfl
  case ldMR => intro r; cases r <;> rfl
  case ldRN => intro dst n; cases dst <;> rfl
  case ldIndA => intro p; cases p <;> rfl
  case ldAInd => intro p; cases p <;> rfl
  case ldR16 => intro p nn; cases p <;> rfl
  case push => intro p; cases p <;> rfl
  case pop => intro p; cases p <;> rfl
  case alu => rintro k (⟨_ | _ | _ | _ | _ | _ | _⟩ | _) <;> cases k <;> rfl
  case aluN => intro k n; cases k <;> rfl
  case inc8 => rintro (⟨_ | _ | _ | _ | _ | _ | _⟩ | _) <;> rfl
  case dec8 => rintro (⟨_ | _ | _ | _ | _ | _ | _⟩ | _) <;> rfl
  case addHL => intro p; cases p <;> rfl
  case incR16 => intro p; cases p <;> rfl
  case decR16 => intro p; cases p <;> rfl
  case rot => rintro k (⟨_ | _ | _ | _ | _ | _ | _⟩ | _) <;> cases k <;> rfl
  case bit => rintro b (⟨_ | _ | _ | _ | _ | _ | _⟩ | _) <;> cases b <;> rfl
  case res => rintro b (⟨_ | _ | _ | _ | _ | _ | _⟩ | _) <;> cases b <;> rfl
  case set => rintro b (⟨_ | _ | _ | _ | _ | _ | _⟩ | _) <;> cases b <;> rfl
  case jrCc => intro cc e; cases cc <;> rfl
  case retCc => intro cc; cases cc <;> rfl
  case jpCc => intro cc nn; cases cc <;> rfl
  case callCc => intro cc nn; cases cc <;> rfl
  case rst => intro t; cases t <;> rfl

/-! ### What is encoded decodes -/

/-- A list of bytes is the whole of one instruction: its first byte asks for exactly so many, and
whatever stands beyond them is not looked at (R91, R92). -/
def IsCodeOf (i : Instr) : List Byte → Prop
  | [b0] => instrLength b0 = 1 ∧ ∀ b1 b2, decodeBytes b0 b1 b2 = i
  | [b0, b1] => instrLength b0 = 2 ∧ ∀ b2, decodeBytes b0 b1 b2 = i
  | [b0, b1, b2] => instrLength b0 = 3 ∧ decodeBytes b0 b1 b2 = i
  | _ => False

theorem decode_append_of_isCodeOf (i : Instr) (bytes rest : List Byte) (h : IsCodeOf i bytes) :
    decode (bytes ++ rest) = .ok (i, rest) := by
  match bytes, h with
  | [b0], ⟨hlen, hdec⟩ => simp [decode, hlen, hdec]
  | [b0, b1], ⟨hlen, hdec⟩ => simp [decode, hlen, hdec]
  | [b0, b1, b2], ⟨hlen, hdec⟩ => simp [decode, hlen, hdec]

theorem isCodeOf_illegal : ∀ op ∈ illegalBytes, IsCodeOf (.illegal op) [op] := by
  simp only [illegalBytes, List.forall_mem_cons]
  refine ⟨?_, ?_, ?_, ?_, ?_, ?_, ?_, ?_, ?_, ?_, ?_, by simp⟩ <;> exact ⟨rfl, fun _ _ => rfl⟩

/-- The bytes of a row with a word operand: the operand's two bytes joined again are the operand. -/
theorem isCodeOf_word (row : Word → Instr) (b0 : Byte) (nn : Word) (hlen : instrLength b0 = 3)
    (hdec : ∀ b1 b2, decodeBytes b0 b1 b2 = row (joinBytes b2 b1)) :
    IsCodeOf (row nn) [b0, loByte nn, hiByte nn] :=
  ⟨hlen, by rw [hdec, joinBytes_hiByte_loByte]⟩

theorem isCodeOf_encode (i : Instr) (h : i.wellFormed = true) : IsCodeOf i (encode i) := by
  cases i
  case illegal op => exact isCodeOf_illegal op (List.contains_iff_mem.1 h)
  case cb op2 => exact absurd h Bool.false_ne_true
  case ldBC_NN | ldAtNN_SP | ldDE_NN | ldHL_NN | ldSP_NN | jpNZ_NN | jpNN | callNZ_NN | jpZ_NN
      | callZ_NN | callNN | jpNC_NN | callNC_NN | jpC_NN | callC_NN | ldAtNN_A | ldA_AtNN =>
    exact isCodeOf_word _ _ _ rfl fun _ _ => rfl
  all_goals exact ⟨rfl, by intros; rfl⟩

/-- Settles O1: the bytes of every well-formed instruction are the whole of it. -/
theorem encodeThenDecode : Obligations.EncodeThenDecode := fun i rest h =>
  decode_append_of_isCodeOf i (encode i) rest (isCodeOf_encode i h)

/-! ### What decodes encodes to the bytes consumed -/

theorem Idx3.val_ofField (n : Nat) (h : n < 8) : (Idx3.ofField n).val = n := by
  interval_cases n <;> rfl

/-- The byte with the fields x, y and z (R93). -/
def opcodeOf (x : Nat) (y z : Idx3) : Byte := BitVec.ofNat 8 (64 * x + 8 * y.val + z.val)

theorem opcodeOf_fields (b : Byte) : opcodeOf (fieldX b) (fieldY b) (fieldZ b) = b := by
  apply BitVec.eq_of_toNat_eq
  simp only [opcodeOf, fieldX, fieldY, fieldZ, BitVec.toNat_ofNat,
    Idx3.val_ofField _ (Nat.mod_lt _ (by decide : 0 < 8))]
  omega

theorem fieldX_cases (b : Byte) : fieldX b = 0 ∨ fieldX b = 1 ∨ fieldX b = 2 ∨ fieldX b = 3 := by
  simp only [fieldX]
  omega

/-- The first bytes of an instruction word, as many as its length asks for (R91): the opcode, then
the immediate byte or the immediate word, low byte first. -/
def codeBytes (op n : Byte) (nn : Word) : Nat → List Byte
  | 1 => [op]
  | 2 => [op, n]
  | _ => [op, loByte nn, hiByte nn]

/-- A form is well-formed, and its encoding is as long as its length says, with the given opcode and
immediates. -/
def Form.EncodesTo (f : Form) (op n : Byte) (nn : Word) : Prop :=
  f.instr.wellFormed = true ∧ encode f.instr = codeBytes op n nn f.length

section
variable {op : Byte} (n : Byte) (nn : Word) {y z : Idx3}

theorem decodeX0_encodesTo (hop : opcodeOf 0 y z = op) :
    (decodeX0 y z n nn).EncodesTo op n nn := by
  subst hop
  cases z <;> cases y <;> exact ⟨rfl, rfl⟩

theorem decodeX1_encodesTo (hop : opcodeOf 1 y z = op) : (decodeX1 y z).EncodesTo op n nn := by
  subst hop
  cases z <;> cases y <;> exact ⟨rfl, rfl⟩

theorem decodeX2_encodesTo (hop : opcodeOf 2 y z = op) :
    (Form.alu (AluOp.ofCode y) (Operand8.ofCode z)).EncodesTo op n nn := by
  subst hop
  cases z <;> cases y <;> exact ⟨rfl, rfl⟩

/-- The last block but for the byte 0xCB, which is no instruction of its own (R226). -/
theorem decodeX3_encodesTo (hop : opcodeOf 3 y z = op) (hprefix : op ≠ 0xCB) :
    (decodeX3 op y z n nn).EncodesTo op n nn := by
  subst hop
  cases z <;> cases y
  case i3.i1 => exact absurd rfl hprefix
  all_goals exact ⟨rfl, rfl⟩

theorem decodeMain_encodesTo (hprefix : op ≠ 0xCB) : (decodeMain op n nn).EncodesTo op n nn := by
  have hop := opcodeOf_fields op
  obtain hx | hx | hx | hx := fieldX_cases op <;> rw [hx] at hop <;> simp only [decodeMain, hx]
  · exact decodeX0_encodesTo n nn hop
  · exact decodeX1_encodesTo n nn hop
  · exact decodeX2_encodesTo n nn hop
  · exact decodeX3_encodesTo n nn hop hprefix

/-! The extended table, block by block: the byte with the fields is the second one, after 0xCB. -/

theorem rot_encodesTo (hop : opcodeOf 0 y z = op) :
    (Form.rot (RotOp.ofCode y) (Operand8.ofCode z)).EncodesTo 0xCB op nn := by
  subst hop
  cases z <;> cases y <;> exact ⟨rfl, rfl⟩

theorem bit_encodesTo (hop : opcodeOf 1 y z = op) :
    (Form.bit y (Operand8.ofCode z)).EncodesTo 0xCB op nn := by
  subst hop
  cases z <;> cases y <;> exact ⟨rfl, rfl⟩

theorem res_encodesTo (hop : opcodeOf 2 y z = op) :
    (Form.res y (Operand8.ofCode z)).EncodesTo 0xCB op nn := by
  subst hop
  cases z <;> cases y <;> exact ⟨rfl, rfl⟩

theorem set_encodesTo (hop : opcodeOf 3 y z = op) :
    (Form.set y (Operand8.ofCode z)).EncodesTo 0xCB op nn := by
  subst hop
  cases z <;> cases y <;> exact ⟨rfl, rfl⟩

theorem decodeCb_encodesTo : (decodeCb op).EncodesTo 0xCB op nn := by
  have hop := opcodeOf_fields op
  obtain hx | hx | hx | hx := fieldX_cases op <;> rw [hx] at hop <;> simp only [decodeCb, hx]
  · exact rot_encodesTo nn hop
  · exact bit_encodesTo nn hop
  · exact res_encodesTo nn hop
  · exact set_encodesTo nn hop

end

/-! ### Lengths -/

theorem length_decodeCb (op2 : Byte) : (decodeCb op2).length = 2 := by
  obtain ⟨k, o, h⟩ | ⟨b, o, h⟩ | ⟨b, o, h⟩ | ⟨b, o, h⟩ := decodeCb_cases op2 <;> rw [h] <;> rfl

/-- The length of an instruction is a function of its first byte alone (R91). -/
theorem length_decodeMain (op n : Byte) (nn : Word) :
    (decodeMain op n nn).length = (decodeMain op 0 0).length := by
  obtain hx | hx | hx | hx := fieldX_cases op <;> simp only [decodeMain, hx]
  · cases fieldZ op <;> cases fieldY op <;> rfl
  · cases fieldZ op <;> cases fieldY op <;> rfl

@[simp] theorem length_decodeForm (b0 b1 b2 : Byte) :
    (decodeForm b0 b1 b2).length = instrLength b0 := by
  simp only [instrLength, decodeForm]
  split
  · rw [length_decodeCb, length_decodeCb]
  · rw [length_decodeMain _ b1, length_decodeMain _ 0 (joinBytes 0 0)]

theorem Form.length_cases (f : Form) : f.length = 1 ∨ f.length = 2 ∨ f.length = 3 := by
  cases f <;> simp [Form.length]

theorem instrLength_cases (b0 : Byte) :
    instrLength b0 = 1 ∨ instrLength b0 = 2 ∨ instrLength b0 = 3 := Form.length_cases _

/-- What three bytes decode to encodes to as many of them as its length says (R91, R92). -/
theorem decodeForm_encodesTo (b0 b1 b2 : Byte) :
    (decodeForm b0 b1 b2).EncodesTo b0 b1 (joinBytes b2 b1) := by
  simp only [decodeForm]
  split
  next h => exact h ▸ decodeCb_encodesTo _
  next h => exact decodeMain_encodesTo b1 _ h

theorem wellFormed_decodeBytes (b0 b1 b2 : Byte) : (decodeBytes b0 b1 b2).wellFormed = true :=
  (decodeForm_encodesTo b0 b1 b2).1

theorem encode_decodeBytes (b0 b1 b2 : Byte) :
    encode (decodeBytes b0 b1 b2) = [b0, b1, b2].take (instrLength b0) := by
  have h := (decodeForm_encodesTo b0 b1 b2).2
  rw [length_decodeForm] at h
  rw [decodeBytes, h]
  obtain hl | hl | hl := instrLength_cases b0 <;> simp [hl, codeBytes]

theorem take_append_drop_of_length_le (b0 : Byte) (tl : List Byte) (k : Nat)
    (hk : k = 1 ∨ k = 2 ∨ k = 3) (h : k ≤ tl.length + 1) :
    [b0, tl.getD 0 0, tl.getD 1 0].take k ++ tl.drop (k - 1) = b0 :: tl := by
  obtain rfl | rfl | rfl := hk
  · simp
  · match tl with
    | b1 :: _ => simp
  · match tl with
    | b1 :: b2 :: _ => simp

/-- Settles O2: each block of the opcode map encodes to the bytes its fields were read from. -/
theorem decodeThenEncode : Obligations.DecodeThenEncode := by
  intro bytes i rest h
  match bytes with
  | b0 :: tl =>
    simp only [decode] at h
    split at h
    next => cases h
    next hlen =>
      cases h
      refine ⟨wellFormed_decodeBytes _ _ _, ?_⟩
      rw [encode_decodeBytes]
      exact take_append_drop_of_length_le b0 tl _ (instrLength_cases b0) (by omega)

/-! ### Samples and illegal bytes -/

/-- Settles O4: each word is the encoding of its instruction. -/
theorem sampleWordsDecode : Obligations.SampleWordsDecode :=
  ⟨encodeThenDecode .ldB_C [] rfl, encodeThenDecode (.ldA_N 0x12) [] rfl,
    encodeThenDecode (.ldHL_NN 0x3A5B) [] rfl, encodeThenDecode .pushAF [] rfl,
    encodeThenDecode .adcA_AtHL [] rfl, encodeThenDecode .addHL_SP [] rfl,
    encodeThenDecode .rla [] rfl, encodeThenDecode .res3_AtHL [] rfl,
    encodeThenDecode (.callC_NN 0x2000) [] rfl, encodeThenDecode (.stop 0x00) [] rfl,
    encodeThenDecode (.illegal 0xDD) [] rfl⟩

theorem decodeBytes_eq_illegal_iff (b0 b1 b2 : Byte) :
    (∃ op, decodeBytes b0 b1 b2 = .illegal op) ↔ b0 ∈ illegalBytes := by
  constructor
  · rintro ⟨op, h⟩
    have hwf := wellFormed_decodeBytes b0 b1 b2
    have henc := encode_decodeBytes b0 b1 b2
    rw [h] at hwf henc
    have hop : op = b0 := by
      obtain hl | hl | hl := instrLength_cases b0 <;> simp_all [encode]
    exact hop ▸ List.contains_iff_mem.1 hwf
  · intro h
    exact ⟨b0, (isCodeOf_illegal b0 h).2 b1 b2⟩

/-- Settles O5: what decodes is well-formed, which the constructor `cb` never is, and `illegal` only
with one of the eleven bytes; the encoding of that is the first byte. -/
theorem illegalFirstBytesFault : Obligations.IllegalFirstBytesFault := by
  refine ⟨decodeBytes_eq_illegal_iff, fun b0 b1 b2 op2 h => ?_, fun _ _ => rfl⟩
  have hwf := wellFormed_decodeBytes b0 b1 b2
  rw [h] at hwf
  exact absurd hwf Bool.false_ne_true

end Sys2Proof
end

section
/-!
PROOFS. The memory statements: what each address selects, reads back, changes and aliases.
-/

namespace Sys2Proof.Machine

/-! ### What an address selects -/

/-- An address below the echo region, in OAM or in high RAM selects the byte of its own number. -/
theorem target_eq_storage_self (a : Word)
    (h : a.toNat ≤ 0xDFFF ∨ (0xFE00 ≤ a.toNat ∧ a.toNat ≤ 0xFE9F) ∨
      (0xFF80 ≤ a.toNat ∧ a.toNat ≤ 0xFFFE)) :
    target a = .storage a.toNat := by
  have hb := regionOf_bounds a
  cases hr : regionOf a <;> simp only [hr, Region.bounds] at hb
  case rom | videoRam | externalRam | workRam | oam | highRam => simp only [target, hr]
  all_goals omega

/-- An address of the echo region selects the byte of work RAM 0x2000 below it (R56, D36). -/
theorem target_eq_storage_echo (a : Word) (h1 : 0xE000 ≤ a.toNat) (h2 : a.toNat ≤ 0xFDFF) :
    target a = .storage (a.toNat - 0x2000) := by
  have hr : regionOf a = .echoRam := (regionOf_eq_iff a .echoRam).2 ⟨h1, h2⟩
  simp only [target, hr]

theorem target_eq_ioTarget (a : Word) (h1 : 0xFF00 ≤ a.toNat) (h2 : a.toNat ≤ 0xFF7F) :
    target a = ioTarget a := by
  have hr : regionOf a = .io := (regionOf_eq_iff a .io).2 ⟨h1, h2⟩
  simp only [target, hr]

/-- A byte of storage is selected by the address of its number, and in work RAM by the echo too. -/
theorem target_eq_storage_iff (a : Word) (k : Nat) :
    target a = .storage k ↔
      (a.toNat = k ∧ isStorageAddress k) ∨
        (0xE000 ≤ a.toNat ∧ a.toNat ≤ 0xFDFF ∧ a.toNat = k + 0x2000) := by
  constructor
  · intro h
    have hk := target_storage a k h
    have hb := regionOf_bounds a
    cases hr : regionOf a <;> simp only [hr, Region.bounds] at hb <;>
      simp only [target, hr, Target.storage.injEq, reduceCtorEq] at h
    case io => exact absurd h (ioTarget_ne_storage a k)
    case echoRam => exact .inr ⟨hb.1, hb.2, by omega⟩
    all_goals exact .inl ⟨h, hk⟩
  · rintro (⟨rfl, hk⟩ | ⟨h1, h2, hk⟩)
    · exact target_eq_storage_self a (by simp only [isStorageAddress] at hk; omega)
    · rw [target_eq_storage_echo a h1 h2, hk, Nat.add_sub_cancel]

theorem target_eq_interruptEnable_iff (a : Word) : target a = .interruptEnable ↔ a = 0xFFFF := by
  constructor
  · intro h
    cases hr : regionOf a <;> simp only [target, hr, reduceCtorEq] at h
    case io =>
      simp only [ioTarget] at h
      split_ifs at h
    case interruptEnable => exact (regionOf_eq_interruptEnable_iff a).1 hr
  · rintro rfl
    exact target_interruptEnableAddress

theorem target_eq_divider_iff (a : Word) : target a = .divider ↔ a = 0xFF04 := by
  constructor
  · intro h
    cases hr : regionOf a <;> simp only [target, hr, reduceCtorEq] at h
    simp only [ioTarget] at h
    split_ifs at h with _ hdiv
    exact BitVec.eq_of_toNat_eq hdiv
  · rintro rfl
    decide

/-- The other addresses of the I/O window are stubs (R64 to R66). -/
theorem target_of_stub (a : Word) (h1 : 0xFF00 ≤ a.toNat) (h2 : a.toNat ≤ 0xFF7F)
    (h : a ∉ ([0xFF00, 0xFF04, 0xFF05, 0xFF06, 0xFF07, 0xFF0F] : List Word)) :
    target a =
      if (0xFF10 ≤ a.toNat ∧ a.toNat ≤ 0xFF3F) ∨ (0xFF4F ≤ a.toNat ∧ a.toNat ≤ 0xFF77)
      then .zeroStub else .unlisted a.toNat := by
  simp only [List.mem_cons, List.not_mem_nil, or_false, not_or, ← BitVec.toNat_inj,
    BitVec.ofNat_eq_ofNat, BitVec.toNat_ofNat, Nat.reducePow, Nat.reduceMod] at h
  obtain ⟨hjoypad, hdivider, hcounter, hmodulo, hcontrol, hflags⟩ := h
  simp only [target_eq_ioTarget a h1 h2, ioTarget, hjoypad, hdivider, hcounter, hmodulo, hcontrol,
    hflags, if_false, ite_or]

theorem target_joypadAddress : target 0xFF00 = .joypad := by decide

theorem target_dividerAddress : target 0xFF04 = .divider := by decide

theorem target_controlAddress : target 0xFF07 = .control := by decide

theorem target_interruptFlagsAddress : target 0xFF0F = .interruptFlags := by decide

/-! ### Reads and writes by what an address selects -/

section
variable (s : State) {a : Word} (v : Byte)

theorem State.memRead_of_storage {k : Nat} (h : target a = .storage k) :
    s.memRead a = s.mem.get k := by
  simp only [State.memRead, h]

theorem State.memRead_of_joypad (h : target a = .joypad) : s.memRead a = s.joyp ||| 0x0F := by
  simp only [State.memRead, h]

theorem State.memWrite_of_joypad (h : target a = .joypad) :
    s.memWrite a v = s.setJoyp ((s.joyp &&& 0x0F) ||| (v &&& 0xF0)) := by
  simp only [State.memWrite, h]

theorem State.memRead_of_divider (h : target a = .divider) : s.memRead a = s.timer.div := by
  simp only [State.memRead, h]

theorem State.memWrite_of_divider (h : target a = .divider) :
    s.memWrite a v = s.setTimer { s.timer with divAcc := 0 } := by
  simp only [State.memWrite, h]

theorem State.memRead_of_control (h : target a = .control) : s.memRead a = s.timer.tac := by
  simp only [State.memRead, h]

theorem State.memWrite_of_control (h : target a = .control) :
    s.memWrite a v = s.setTimer { s.timer with tac := v } := by
  simp only [State.memWrite, h]

theorem State.memRead_of_interruptFlags (h : target a = .interruptFlags) : s.memRead a = s.ifl := by
  simp only [State.memRead, h]

theorem State.memWrite_of_interruptFlags (h : target a = .interruptFlags) :
    s.memWrite a v = s.setIfl v := by
  simp only [State.memWrite, h]

/-- A write depends on the address by what it selects only. -/
theorem State.memWrite_congr {b : Word} (h : SameByte a b) : s.memWrite a v = s.memWrite b v := by
  simp only [State.memWrite, h]

/-- What each address that keeps a whole byte reads after a write to it (R55, R68). -/
theorem State.memRead_memWrite_self
    (h : (∃ k, target a = .storage k) ∨ target a = .counter ∨ target a = .modulo ∨
      target a = .control ∨ target a = .interruptFlags ∨ target a = .interruptEnable) :
    (s.memWrite a v).memRead a = v := by
  obtain ⟨k, h⟩ | h | h | h | h | h := h
  · exact s.memRead_memWrite_storage a a v k h h
  · rw [State.memRead_of_counter _ h, State.memWrite_of_counter _ _ h]; rfl
  · rw [State.memRead_of_modulo _ h, State.memWrite_of_modulo _ _ h]; rfl
  · rw [State.memRead_of_control _ h, State.memWrite_of_control _ _ h]; rfl
  · rw [State.memRead_of_interruptFlags _ h, State.memWrite_of_interruptFlags _ _ h]; rfl
  · rw [State.memRead_of_interruptEnable _ h, State.memWrite_of_interruptEnable _ _ h]; rfl

end

/-! ### The joypad byte -/

theorem getLsbD_mask_low (n : Fin 8) : (0x0F : Byte).getLsbD n = decide (n.val < 4) := by
  revert n; decide

theorem getLsbD_mask_high (n : Fin 8) : (0xF0 : Byte).getLsbD n = !decide (n.val < 4) := by
  revert n; decide

theorem low_joypad_write (j v : Byte) : ((j &&& 0x0F) ||| (v &&& 0xF0)) &&& 0x0F = j &&& 0x0F := by
  rw [BitVec.and_or_distrib_right, low_of_mask, BitVec.and_assoc, BitVec.and_self]
  exact BitVec.or_zero

/-- The joypad register keeps its stored low nibble through every write (R58, D23). -/
theorem State.memWrite_joyp_low (s : State) (a : Word) (v : Byte) :
    (s.memWrite a v).joyp &&& 0x0F = s.joyp &&& 0x0F := by
  by_cases h : target a = .joypad
  · rw [s.memWrite_of_joypad v h]
    exact low_joypad_write s.joyp v
  · simp only [State.memWrite]
    split
    case h_3 => contradiction
    all_goals rfl

/-! ### The statements -/

/-- Settles O12: each address of a region selects the byte or the device the map gives it. -/
theorem eachRegionIsReadAsTheMapSays : Obligations.EachRegionIsReadAsTheMapSays := by
  intro s a
  refine ⟨fun h => ?_, fun h1 h2 => ?_, fun h1 h2 => ?_, fun h1 h2 => ?_, fun h1 h2 => ?_,
    s.memRead_of_joypad target_joypadAddress, s.memRead_of_divider target_dividerAddress,
    s.memRead_of_counter target_counterAddress, s.memRead_of_modulo target_moduloAddress,
    s.memRead_of_control target_controlAddress,
    s.memRead_of_interruptFlags target_interruptFlagsAddress,
    s.memRead_of_interruptEnable target_interruptEnableAddress⟩
  · exact s.memRead_of_storage (target_eq_storage_self a (.inl h))
  · exact s.memRead_of_storage (target_eq_storage_echo a h1 h2)
  · exact s.memRead_of_storage (target_eq_storage_self a (.inr (.inl ⟨h1, h2⟩)))
  · exact s.memRead_of_unusable (target_eq_unusable a h1 h2)
  · exact s.memRead_of_storage (target_eq_storage_self a (.inr (.inr ⟨h1, h2⟩)))

/-- An address below the unusable region or above the I/O window keeps a whole byte. -/
theorem target_of_plain (a : Word) (h : a.toNat < 0xFEA0 ∨ 0xFF80 ≤ a.toNat) :
    (∃ k, target a = .storage k) ∨ a = 0xFFFF := by
  by_cases he : 0xE000 ≤ a.toNat ∧ a.toNat ≤ 0xFDFF
  · exact .inl ⟨_, target_eq_storage_echo a he.1 he.2⟩
  · by_cases hie : a.toNat = 0xFFFF
    · exact .inr (BitVec.eq_of_toNat_eq hie)
    · exact .inl ⟨_, target_eq_storage_self a (by omega)⟩

/-- Settles O13: each of these addresses selects a byte of storage or a device that keeps a whole
byte. -/
theorem writableBytesReadBack : Obligations.WritableBytesReadBack := by
  intro s a v h
  apply s.memRead_memWrite_self v
  rw [← or_assoc] at h
  obtain h | rfl | rfl | rfl | rfl := h
  · obtain hk | rfl := target_of_plain a h
    · exact .inl hk
    · exact .inr (.inr (.inr (.inr (.inr target_interruptEnableAddress))))
  · exact .inr (.inl target_counterAddress)
  · exact .inr (.inr (.inl target_moduloAddress))
  · exact .inr (.inr (.inr (.inl target_controlAddress)))
  · exact .inr (.inr (.inr (.inr (.inl target_interruptFlagsAddress))))

/-- Settles O14: the frame lemmas of a write; only 0xFF04 selects the divider. -/
theorem aWriteChangesOnlyTheSelectedByte : Obligations.AWriteChangesOnlyTheSelectedByte := by
  intro s a v
  have hdivAcc := s.memWrite_divAcc a v
  simp only [target_eq_divider_iff] at hdivAcc
  exact ⟨fun b hb => s.memRead_memWrite_ne a b v hb, s.memWrite_regs a v, s.memWrite_sp a v,
    s.memWrite_pc a v, s.memWrite_ime a v, s.memWrite_halted a v, s.memWrite_stopped a v,
    s.memWrite_haltBug a v, s.memWrite_div a v, s.memWrite_timaAcc a v, hdivAcc,
    s.memWrite_joyp_low a v⟩

/-- Settles O15: two addresses select one byte of storage when they are the byte's number and its
echo. -/
theorem onlyTheEchoAliasesWorkRam : Obligations.OnlyTheEchoAliasesWorkRam := by
  refine ⟨fun s k v => ?_, fun a b ha => ?_⟩
  · have hwork : target (BitVec.ofNat 16 (0xC000 + k.val)) = .storage (0xC000 + k.val) := by
      rw [target_eq_storage_iff]
      simp only [isStorageAddress, BitVec.toNat_ofNat]
      omega
    have hecho : target (BitVec.ofNat 16 (0xE000 + k.val)) = .storage (0xC000 + k.val) := by
      rw [target_eq_storage_iff]
      simp only [isStorageAddress, BitVec.toNat_ofNat]
      omega
    exact ⟨s.memWrite_congr v (hecho.trans hwork.symm),
      s.memRead_memWrite_storage _ _ v _ hwork hecho,
      s.memRead_memWrite_storage _ _ v _ hecho hwork⟩
  · simp only [SameByte, ← BitVec.toNat_inj]
    obtain ⟨k, hk⟩ | rfl := target_of_plain a ha
    · rw [hk, eq_comm, target_eq_storage_iff]
      have hk' := (target_eq_storage_iff a k).1 hk
      simp only [isStorageAddress] at hk' ⊢
      omega
    · rw [target_interruptEnableAddress, eq_comm, target_eq_interruptEnable_iff, ← BitVec.toNat_inj]
      have hb := b.isLt
      simp only [BitVec.ofNat_eq_ofNat, BitVec.toNat_ofNat]
      omega

/-- Settles O19: the devices' bits one by one; any other address of the window is a stub. -/
theorem deviceBytesAndStubs : Obligations.DeviceBytesAndStubs := by
  refine ⟨fun s v => ⟨fun n => ?_, fun n => ?_, ?_, s.memWrite_of_divider v target_dividerAddress,
    s.memWrite_of_control v target_controlAddress,
    s.memWrite_of_interruptFlags v target_interruptFlagsAddress⟩, fun s a h1 h2 h => ?_⟩
  · rw [s.memRead_of_joypad target_joypadAddress, BitVec.getLsbD_or, getLsbD_mask_low, Bool.or_comm]
  · rw [s.memWrite_of_joypad v target_joypadAddress]
    simp only [State.setJoyp_joyp, BitVec.getLsbD_or, BitVec.getLsbD_and, getLsbD_mask_low,
      getLsbD_mask_high]
    split_ifs with hn <;> simp [hn]
  · rw [s.memWrite_of_joypad v target_joypadAddress]
    rfl
  · have ht := target_of_stub a h1 h2 h
    split_ifs at ht ⊢ <;> simp [State.memWrite, State.memRead, ht]

end Sys2Proof.Machine
end

section
/-!
PROOFS. The timer statements. A tick is the divider's division with remainder, the counter
accumulator's, and so many rounds of the counter, which runs on TIMA and IF alone.
-/

namespace Sys2Proof.Machine

/-! ### The frame of a tick -/

theorem State.countOnce_eq (s : State) :
    s.countOnce = (s.setTimer s.countOnce.timer).setIfl s.countOnce.ifl := by
  simp only [State.countOnce]
  split <;> rfl

theorem State.countMany_eq (k : Nat) (s : State) :
    State.countMany k s =
      (s.setTimer (State.countMany k s).timer).setIfl (State.countMany k s).ifl := by
  induction k generalizing s with
  | zero => rfl
  | succ k ih =>
    simp only [State.countMany]
    rw [ih s.countOnce, s.countOnce_eq]
    rfl

theorem State.tick_eq (n : Nat) (s : State) :
    s.tick n = (s.setTimer (s.tick n).timer).setIfl (s.tick n).ifl := by
  simp only [State.tick, State.tickCounter]
  split
  · rw [State.countMany_eq]
    rfl
  · rfl

/-! ### The divider -/

theorem State.tickCounter_timer (n : Nat) (s : State) :
    (s.tickCounter n).timer = { s.timer with
      tima := (s.tickCounter n).timer.tima, timaAcc := (s.tickCounter n).timer.timaAcc } := by
  simp only [State.tickCounter]
  split
  · rw [State.countMany_timer]
    rfl
  · rfl

theorem State.tick_div (n : Nat) (s : State) :
    (s.tick n).timer.div = BitVec.ofNat 8 (s.timer.div.toNat + (s.timer.divAcc + n) / 256) := by
  rw [State.tick, State.tickCounter_timer]
  rfl

theorem State.tick_divAcc (n : Nat) (s : State) :
    (s.tick n).timer.divAcc = (s.timer.divAcc + n) % 256 := by
  rw [State.tick, State.tickCounter_timer]
  rfl

@[simp] theorem State.tick_tma (n : Nat) (s : State) : (s.tick n).timer.tma = s.timer.tma := by
  rw [State.tick, State.tickCounter_timer]
  rfl

@[simp] theorem State.tick_tac (n : Nat) (s : State) : (s.tick n).timer.tac = s.timer.tac := by
  rw [State.tick, State.tickCounter_timer]
  rfl

/-- Settles O20: quotient and remainder of the accumulated cycles by 256. -/
theorem dividerCountsEvery256Cycles : Obligations.DividerCountsEvery256Cycles := by
  intro n s
  refine ⟨s.tick_divAcc_lt n, ?_⟩
  rw [s.tick_div n, s.tick_divAcc n, BitVec.toNat_ofNat]
  omega

/-! ### The counter -/

/-- TIMA and IF, which the counter runs on. -/
def State.counter (s : State) : Byte × Byte := (s.timer.tima, s.ifl)

/-- One round of the counter, TMA given (R310, R313). -/
def countRound (tma : Byte) (c : Byte × Byte) : Byte × Byte :=
  if c.1 = 0xFF then (tma, c.2 ||| 0x04) else (c.1 + 1, c.2)

/-- How many rounds of the counter a tick runs: one for each period of accumulated cycles (R310). -/
def State.rounds (n : Nat) (s : State) : Nat :=
  if s.timer.enabled then (s.timer.timaAcc + n) / s.timer.period else 0

theorem State.counter_countOnce (s : State) :
    s.countOnce.counter = countRound s.timer.tma s.counter := by
  by_cases h : s.timer.tima = 0xFF
  · have hc : s.counter.1 = 0xFF := h
    rw [countRound, if_pos hc, State.countOnce, if_pos h]
    rfl
  · have hc : s.counter.1 ≠ 0xFF := h
    rw [countRound, if_neg hc, State.countOnce, if_neg h]
    rfl

theorem State.countOnce_tma (s : State) : s.countOnce.timer.tma = s.timer.tma := by
  rw [State.countOnce_timer]

theorem State.counter_countMany (k : Nat) (s : State) :
    (State.countMany k s).counter = (countRound s.timer.tma)^[k] s.counter := by
  induction k generalizing s with
  | zero => rfl
  | succ k ih =>
    rw [Function.iterate_succ_apply, ← s.counter_countOnce, ← s.countOnce_tma]
    exact ih s.countOnce

/-- A tick runs its rounds of the counter. -/
theorem State.counter_tick (n : Nat) (s : State) :
    (s.tick n).counter = (countRound s.timer.tma)^[s.rounds n] s.counter := by
  have he : (s.tickDivider n).timer.enabled = s.timer.enabled := rfl
  cases hen : s.timer.enabled <;> simp only [State.tick, State.tickCounter, State.rounds, he, hen]
  · rfl
  · exact State.counter_countMany _ _

theorem Timer.period_eq_getD (t : Timer) :
    t.period = ([1024, 16, 64, 256] : List Nat).getD (t.tac.toNat % 4) 0 := by
  have h : t.tac.toNat % 4 < 4 := Nat.mod_lt _ (by decide)
  simp only [Timer.period]
  generalize t.tac.toNat % 4 = j at h
  interval_cases j <;> rfl

theorem add_one_mod_eq_ite (m p : Nat) (hp : 0 < p) :
    (m + 1) % p = if m % p = p - 1 then 0 else m % p + 1 := by
  have := Nat.mod_lt m hp
  rw [← Nat.mod_add_mod]
  split_ifs with h
  · rw [h, Nat.sub_add_cancel hp, Nat.mod_self]
  · exact Nat.mod_eq_of_lt (by omega)

theorem countRound_of_max (tma : Byte) (c : Byte × Byte) (h : c.1.toNat = 255) :
    countRound tma c = (tma, c.2 ||| 0x04) :=
  if_pos (BitVec.eq_of_toNat_eq h)

theorem countRound_of_lt (tma : Byte) (c : Byte × Byte) (h : c.1.toNat < 255) :
    (countRound tma c).1.toNat = c.1.toNat + 1 ∧ (countRound tma c).2 = c.2 := by
  have hne : c.1 ≠ 0xFF := by bv_omega
  rw [countRound, if_neg hne]
  exact ⟨by bv_omega, rfl⟩

/-- The counter after a number of rounds: up to 255 it counts, and past that it runs on from TMA,
round and round (R312, R313). -/
theorem countRound_iterate (tma tima ifl : Byte) (k : Nat) :
    let c := (countRound tma)^[k] (tima, ifl)
    (tima.toNat + k < 256 → c.1.toNat = tima.toNat + k ∧ c.2 = ifl) ∧
    (256 ≤ tima.toNat + k →
      c.1.toNat = tma.toNat + (tima.toNat + k - 256) % (256 - tma.toNat) ∧
      c.2 = ifl ||| 0x04) := by
  have htma := tma.isLt
  induction k with
  | zero => exact ⟨fun _ => ⟨rfl, rfl⟩, fun h => by have := tima.isLt; omega⟩
  | succ k ih =>
    simp only [Function.iterate_succ_apply']
    generalize (countRound tma)^[k] (tima, ifl) = c at ih
    obtain ⟨hcounting, hround⟩ := ih
    obtain hlt | hmax | hge :
        tima.toNat + k < 255 ∨ tima.toNat + k = 255 ∨ 256 ≤ tima.toNat + k := by omega
    · obtain ⟨h1, h2⟩ := hcounting (by omega)
      obtain ⟨h1', h2'⟩ := countRound_of_lt tma c (by omega)
      exact ⟨fun _ => ⟨by omega, h2'.trans h2⟩, fun h => by omega⟩
    · obtain ⟨h1, h2⟩ := hcounting (by omega)
      have hzero : tima.toNat + (k + 1) - 256 = 0 := by omega
      rw [countRound_of_max tma c (by omega), hzero, h2]
      exact ⟨fun h => by omega, fun _ => ⟨by simp, rfl⟩⟩
    · obtain ⟨h1, h2⟩ := hround hge
      have hmod := add_one_mod_eq_ite (tima.toNat + k - 256) (256 - tma.toNat) (by omega)
      have hcount : tima.toNat + (k + 1) - 256 = tima.toNat + k - 256 + 1 := by omega
      refine ⟨fun h => by omega, fun _ => ?_⟩
      rw [hcount, hmod]
      split_ifs with hlast
      · rw [countRound_of_max tma c (by omega), h2, BitVec.or_assoc, BitVec.or_self]
        exact ⟨rfl, rfl⟩
      · have := Nat.mod_lt (tima.toNat + k - 256) (by omega : 0 < 256 - tma.toNat)
        obtain ⟨h1', h2'⟩ := countRound_of_lt tma c (by omega)
        exact ⟨by omega, h2'.trans h2⟩

/-- Settles O21: a tick runs its rounds of the counter, and their closed form is
`countRound_iterate`. -/
theorem counterClosedForm : Obligations.CounterClosedForm := by
  intro n s
  have hcounter := s.counter_tick n
  have hacc := s.tick_timaAcc n
  refine ⟨fun henabled period count hperiod hcount => ?_, fun hdisabled => ?_⟩
  · rw [← s.timer.period_eq_getD] at hperiod
    have hen : s.timer.enabled = true := henabled
    simp only [State.rounds, hen, if_true] at hcounter hacc
    subst hperiod hcount
    obtain ⟨hlow, hhigh⟩ := countRound_iterate s.timer.tma s.timer.tima s.ifl
      ((s.timer.timaAcc + n) / s.timer.period)
    rw [← State.counter, ← hcounter] at hlow hhigh
    exact ⟨hacc, hlow, hhigh⟩
  · have hen : s.timer.enabled = false := hdisabled
    simp only [State.rounds, hen, Bool.false_eq_true, if_false, Function.iterate_zero, id]
      at hcounter hacc
    obtain ⟨htima, hifl⟩ := Prod.mk.inj hcounter
    refine ⟨htima, hifl, hacc.trans ?_⟩
    cases s.cfg.timaAcc <;> rfl

/-! ### Ticks add -/

@[simp] theorem State.tick_enabled (n : Nat) (s : State) :
    (s.tick n).timer.enabled = s.timer.enabled := by
  rw [Timer.enabled, State.tick_tac, Timer.enabled]

@[simp] theorem State.tick_period (n : Nat) (s : State) :
    (s.tick n).timer.period = s.timer.period := by
  simp only [Timer.period, State.tick_tac]

theorem State.rounds_add (m n : Nat) (s : State) :
    s.rounds (m + n) = s.rounds m + (s.tick m).rounds n := by
  cases hen : s.timer.enabled <;> simp only [State.rounds, State.tick_enabled, State.tick_period,
    State.tick_timaAcc, hen, if_true, Bool.false_eq_true, if_false]
  have hsplit := Nat.div_add_mod (s.timer.timaAcc + m) s.timer.period
  rw [← Nat.mul_add_div s.timer.period_pos, ← Nat.add_assoc, ← Nat.add_assoc, hsplit]

theorem State.counter_tick_tick (m n : Nat) (s : State) :
    ((s.tick m).tick n).counter = (s.tick (m + n)).counter := by
  rw [State.counter_tick, State.counter_tick, State.counter_tick, State.tick_tma, s.rounds_add,
    Nat.add_comm (s.rounds m), Function.iterate_add_apply]

theorem State.timaAcc_tick_tick (m n : Nat) (s : State) :
    ((s.tick m).tick n).timer.timaAcc = (s.tick (m + n)).timer.timaAcc := by
  simp only [State.tick_timaAcc, State.tick_enabled, State.tick_period, State.tick_cfg]
  split_ifs
  · rw [Nat.mod_add_mod, Nat.add_assoc]
  · rw [Nat.add_assoc]
  · rfl

theorem Timer.eq_of_fields (t u : Timer) (hdiv : t.div = u.div) (hdivAcc : t.divAcc = u.divAcc)
    (htima : t.tima = u.tima) (htimaAcc : t.timaAcc = u.timaAcc) (htma : t.tma = u.tma)
    (htac : t.tac = u.tac) : t = u := by
  cases t
  cases u
  simp_all

theorem State.timer_tick_tick (m n : Nat) (s : State) :
    ((s.tick m).tick n).timer = (s.tick (m + n)).timer := by
  refine Timer.eq_of_fields _ _ ?_ ?_ (congrArg Prod.fst (s.counter_tick_tick m n))
    (s.timaAcc_tick_tick m n) (by simp) (by simp)
  · simp only [State.tick_div, State.tick_divAcc]
    bv_omega
  · simp only [State.tick_divAcc]
    omega

/-- Settles O22: the two ticks' quotients and remainders add up, and so do their rounds. -/
theorem ticksAdd : Obligations.TicksAdd := by
  intro m n s
  have hifl : ((s.tick m).tick n).ifl = (s.tick (m + n)).ifl :=
    congrArg Prod.snd (s.counter_tick_tick m n)
  rw [State.tick_eq n, State.tick_eq (m + n), s.timer_tick_tick m n, hifl, State.tick_eq m]
  rfl

/-! ### What a tick changes -/

theorem countRound_iterate_snd (tma : Byte) (k : Nat) (c : Byte × Byte) :
    ((countRound tma)^[k] c).2 = c.2 ∨ ((countRound tma)^[k] c).2 = c.2 ||| 0x04 := by
  by_cases h : c.1.toNat + k < 256
  · exact .inl ((countRound_iterate tma c.1 c.2 k).1 h).2
  · exact .inr ((countRound_iterate tma c.1 c.2 k).2 (Nat.le_of_not_lt h)).2

theorem State.tick_ifl (n : Nat) (s : State) :
    (s.tick n).ifl = s.ifl ∨ (s.tick n).ifl = s.ifl ||| 0x04 := by
  have h := congrArg Prod.snd (s.counter_tick n)
  change (s.tick n).ifl = _ at h
  rw [h]
  exact countRound_iterate_snd _ _ s.counter

theorem getLsbD_timerBit (k : Fin 8) : (0x04 : Byte).getLsbD k = decide (k.val = 2) := by
  revert k; decide

/-- Settles O23: the frame of a tick; the only bit it raises in IF is the timer's. -/
theorem aTickChangesOnlyTheTimer : Obligations.ATickChangesOnlyTheTimer := by
  intro n s
  refine ⟨s.tick_eq n, s.tick_tma n, s.tick_tac n, fun k hk => ?_, fun h => ?_⟩ <;>
    obtain hifl | hifl := s.tick_ifl n <;> rw [hifl]
  · rw [BitVec.getLsbD_or, getLsbD_timerBit, decide_eq_false hk, Bool.or_false]
  · exact h
  · rw [BitVec.getLsbD_or, h, Bool.true_or]

end Sys2Proof.Machine
end

section
/-!
PROOFS. The register file: pairs as concatenations, flags as bits.
-/

namespace Sys2Proof

theorem joinBytes_eq_append (hi lo : Byte) : joinBytes hi lo = hi ++ lo := by
  apply BitVec.eq_of_toNat_eq
  have hlo : lo.toNat < 2 ^ 8 := lo.isLt
  rw [BitVec.toNat_append, ← Nat.shiftLeft_add_eq_or_of_lt hlo, Nat.shiftLeft_eq, joinBytes,
    BitVec.toNat_ofNat]
  omega

namespace Machine

/-- What AF keeps of a word: all but the low nibble of F (R23). -/
theorem State.af_setAf_eq_and (s : State) (v : Word) : (s.setAf v).af = v &&& 0xFFF0 := by
  have hv : v = hiByte v ++ loByte v := by
    rw [← joinBytes_eq_append, joinBytes_hiByte_loByte]
  have hmask : (0xFFF0 : Word) = (0xFF : Byte) ++ (0xF0 : Byte) := by decide
  have hhi : hiByte v &&& 0xFF = hiByte v := BitVec.and_allOnes
  rw [State.af_setAf, joinBytes_eq_append]
  conv_rhs => rw [hv, hmask, BitVec.and_append, hhi]

section
variable (s : State) (v : Word)

theorem State.setBc_eq_extract : s.setBc v = { s with regs :=
    { s.regs with b := v.extractLsb' 8 8, c := v.extractLsb' 0 8 } } := by
  rw [← hiByte_eq_extractLsb', ← loByte_eq_extractLsb']
  rfl

theorem State.setDe_eq_extract : s.setDe v = { s with regs :=
    { s.regs with d := v.extractLsb' 8 8, e := v.extractLsb' 0 8 } } := by
  rw [← hiByte_eq_extractLsb', ← loByte_eq_extractLsb']
  rfl

theorem State.setHl_eq_extract : s.setHl v = { s with regs :=
    { s.regs with h := v.extractLsb' 8 8, l := v.extractLsb' 0 8 } } := by
  rw [← hiByte_eq_extractLsb', ← loByte_eq_extractLsb']
  rfl

theorem State.setAf_eq_extract : s.setAf v = { s with regs :=
    { s.regs with a := v.extractLsb' 8 8, f := v.extractLsb' 0 8 &&& 0xF0 } } := by
  rw [← hiByte_eq_extractLsb', ← loByte_eq_extractLsb']
  rfl

end

/-- Settles O11: the laws of the register file, with pairs as concatenations of their halves. -/
theorem registersPairsAndFlagsKeepWhatIsWritten :
    Obligations.RegistersPairsAndFlagsKeepWhatIsWritten := by
  refine ⟨fun s r v => ⟨?_, ?_, fun q hq => ?_, Regs.put_f s.regs r v, rfl⟩,
    fun s v => ⟨joinBytes_eq_append _ _, joinBytes_eq_append _ _, joinBytes_eq_append _ _,
      joinBytes_eq_append _ _, s.setBc_eq_extract v, s.setDe_eq_extract v, s.setHl_eq_extract v,
      s.setAf_eq_extract v, fun p => s.readPair_writePair p v, s.af_setAf_eq_and v⟩,
    fun s v => ?_, fun s => ?_,
    fun s z n h c => ⟨s.flagZ_setFlags z n h c, s.flagN_setFlags z n h c, s.flagH_setFlags z n h c,
      s.flagC_setFlags z n h c, s.low_setFlags z n h c, fun r => s.getReg_setFlags r z n h c, rfl⟩⟩
  · cases r <;> rfl
  · rw [State.getReg_setReg, if_pos rfl]
  · rw [State.getReg_setReg, if_neg hq]
  · exact ⟨rfl, rfl, rfl, rfl, rfl, rfl, rfl, rfl, rfl, rfl, rfl, rfl, rfl, rfl, rfl, rfl⟩
  · exact ⟨rfl, rfl, rfl, rfl, rfl, rfl, rfl, rfl⟩

end Machine
end Sys2Proof
end

section
/-!
PROOFS. One equation per form: what each instruction answers, in the operations of the model. Proofs
about instructions use these and do not unfold the meanings again.
-/

namespace Sys2Proof.Machine

section
variable (s : State)

/-! ### System instructions -/

@[simp] theorem runForm_nop : runForm .nop s = .next (s.setCycles 4) := rfl

@[simp] theorem runForm_stop (pad : Byte) :
    runForm (.stop pad) s = .next ((s.setStopped true).setCycles 4) := rfl

@[simp] theorem runForm_di : runForm .di s = .next ((s.setIme .unset).setCycles 4) := rfl

@[simp] theorem runForm_ei :
    runForm .ei s = .next ((s.setIme (s.ime.request s.cfg.eiFromSet)).setCycles 4) := rfl

@[simp] theorem runForm_cbPrefix (op2 : Byte) :
    runForm (.cbPrefix op2) s = runForm (decodeCb op2) s := runExtended_eq op2 s

@[simp] theorem runForm_illegal (op : Byte) : runForm (.illegal op) s = .fault .illegalOpcode := rfl

/-- HALT by IME and policy (R224, R305). -/
@[simp] theorem runForm_halt :
    runForm .halt s =
      if s.ime ≠ .set ∧ s.cfg.haltPolicy = .fault then .fault .haltImeNotSet
      else if s.ime ≠ .set ∧ s.firstPending.isSome then .next ((s.setHaltBug true).setCycles 4)
      else .next ((s.setHalted true).setCycles 4) := by
  simp only [runForm, haltCore]
  cases s.ime <;> cases s.cfg.haltPolicy <;> simp

/-! ### 8-bit loads -/

@[simp] theorem runForm_ldRR (dst src : Reg8) :
    runForm (.ldRR dst src) s = .next ((s.setReg dst (s.getReg src)).setCycles 4) := rfl

@[simp] theorem runForm_ldRM (dst : Reg8) :
    runForm (.ldRM dst) s = .next ((s.setReg dst (s.memRead s.hl)).setCycles 8) := rfl

@[simp] theorem runForm_ldMR (src : Reg8) :
    runForm (.ldMR src) s = .next ((s.memWrite s.hl (s.getReg src)).setCycles 8) := rfl

@[simp] theorem runForm_ldRN (dst : Reg8) (n : Byte) :
    runForm (.ldRN dst n) s = .next ((s.setReg dst n).setCycles 8) := rfl

@[simp] theorem runForm_ldMN (n : Byte) :
    runForm (.ldMN n) s = .next ((s.memWrite s.hl n).setCycles 12) := rfl

@[simp] theorem runForm_ldAInd (i : Indirect) :
    runForm (.ldAInd i) s =
      .next (((s.setReg .a (s.memRead (s.indirectAddress i))).indirectUpdate i).setCycles 8) := rfl

@[simp] theorem runForm_ldIndA (i : Indirect) :
    runForm (.ldIndA i) s =
      .next (((s.memWrite (s.indirectAddress i) (s.getReg .a)).indirectUpdate i).setCycles 8) := rfl

@[simp] theorem runForm_ldhNA (n : Byte) :
    runForm (.ldhNA n) s = .next ((s.memWrite (highPage n) (s.getReg .a)).setCycles 12) := rfl

@[simp] theorem runForm_ldhAN (n : Byte) :
    runForm (.ldhAN n) s = .next ((s.setReg .a (s.memRead (highPage n))).setCycles 12) := rfl

@[simp] theorem runForm_ldCA :
    runForm .ldCA s =
      .next ((s.memWrite (highPage (s.getReg .c)) (s.getReg .a)).setCycles 8) := rfl

@[simp] theorem runForm_ldAC :
    runForm .ldAC s = .next ((s.setReg .a (s.memRead (highPage (s.getReg .c)))).setCycles 8) := rfl

@[simp] theorem runForm_ldNNA (nn : Word) :
    runForm (.ldNNA nn) s = .next ((s.memWrite nn (s.getReg .a)).setCycles 16) := rfl

@[simp] theorem runForm_ldANN (nn : Word) :
    runForm (.ldANN nn) s = .next ((s.setReg .a (s.memRead nn)).setCycles 16) := rfl

/-! ### 16-bit loads and the stack -/

@[simp] theorem runForm_ldR16 (p : Pair16) (nn : Word) :
    runForm (.ldR16 p nn) s = .next ((s.writePair p nn).setCycles 12) := rfl

@[simp] theorem runForm_ldNNSP (nn : Word) :
    runForm (.ldNNSP nn) s =
      .next (((s.memWrite nn (loByte s.sp)).memWrite (incWord nn) (hiByte s.sp)).setCycles
        20) := rfl

@[simp] theorem runForm_ldSPHL : runForm .ldSPHL s = .next ((s.setSp s.hl).setCycles 8) := rfl

@[simp] theorem runForm_ldHLSP (e : Byte) :
    runForm (.ldHLSP e) s =
      .next (((s.setHl (addSpByte s.sp e).result).setFlags false false (addSpByte s.sp e).h
        (addSpByte s.sp e).c).setCycles 12) := rfl

@[simp] theorem runForm_push (p : PairStk) :
    runForm (.push p) s = .next ((s.push16 (s.readStk p)).setCycles 16) := rfl

@[simp] theorem runForm_pop (p : PairStk) :
    runForm (.pop p) s = .next ((s.pop16.2.writeStk p s.pop16.1).setCycles 12) := rfl

/-! ### 8-bit arithmetic and logic -/

@[simp] theorem runForm_alu (k : AluOp) (o : Operand8) :
    runForm (.alu k o) s =
      .next ((s.putAlu (AluOp.run k (s.getReg .a) (s.readOperand o) s.flagC)).setCycles
        (costOf o 4 8)) := rfl

@[simp] theorem runForm_aluN (k : AluOp) (n : Byte) :
    runForm (.aluN k n) s =
      .next ((s.putAlu (AluOp.run k (s.getReg .a) n s.flagC)).setCycles 8) := rfl

/-- The state in which an operand takes a result, and its flags are set from the same result. -/
def State.putOperand (s : State) (o : Operand8) (r : AluOut) : State :=
  (s.writeOperand o r.result).setFlags r.z r.n r.h r.c

@[simp] theorem runForm_inc8 (o : Operand8) :
    runForm (.inc8 o) s =
      .next ((s.putOperand o (inc8 (s.readOperand o) s.flagC)).setCycles (costOf o 4 12)) := rfl

@[simp] theorem runForm_dec8 (o : Operand8) :
    runForm (.dec8 o) s =
      .next ((s.putOperand o (dec8 (s.readOperand o) s.flagC)).setCycles (costOf o 4 12)) := rfl

@[simp] theorem runForm_daa :
    runForm .daa s =
      .next ((s.putAlu (daa8 s.cfg.daaVariant (s.getReg .a) s.flagN s.flagH s.flagC)).setCycles
        4) := rfl

@[simp] theorem runForm_cpl :
    runForm .cpl s =
      .next (((s.setReg .a (s.getReg .a ^^^ 0xFF)).setFlags s.flagZ true true s.flagC).setCycles
        4) := rfl

@[simp] theorem runForm_scf :
    runForm .scf s = .next ((s.setFlags s.flagZ false false true).setCycles 4) := rfl

@[simp] theorem runForm_ccf :
    runForm .ccf s = .next ((s.setFlags s.flagZ false false (!s.flagC)).setCycles 4) := rfl

/-! ### 16-bit arithmetic -/

@[simp] theorem runForm_addHL (p : Pair16) :
    runForm (.addHL p) s =
      .next (((s.setHl (add16 s.hl (s.readPair p)).result).setFlags
        (add16 s.hl (s.readPair p)).z (add16 s.hl (s.readPair p)).n
        (add16 s.hl (s.readPair p)).h (add16 s.hl (s.readPair p)).c).setCycles 8) := rfl

@[simp] theorem runForm_addSP (e : Byte) :
    runForm (.addSP e) s =
      .next (((s.setSp (addSpByte s.sp e).result).setFlags (addSpByte s.sp e).z
        (addSpByte s.sp e).n (addSpByte s.sp e).h (addSpByte s.sp e).c).setCycles 16) := rfl

@[simp] theorem runForm_incR16 (p : Pair16) :
    runForm (.incR16 p) s = .next ((s.writePair p (incWord (s.readPair p))).setCycles 8) := rfl

@[simp] theorem runForm_decR16 (p : Pair16) :
    runForm (.decR16 p) s = .next ((s.writePair p (decWord (s.readPair p))).setCycles 8) := rfl

/-! ### Rotates, shifts and bits -/

/-- The state after a rotate of the accumulator (R170 to R173). -/
def State.rotateA (s : State) (k : RotOp) : State :=
  (s.setReg .a (RotOp.run k (s.getReg .a) s.flagC).1).setFlags false false false
    (RotOp.run k (s.getReg .a) s.flagC).2

@[simp] theorem runForm_rlca : runForm .rlca s = .next ((s.rotateA .rlc).setCycles 4) := rfl

@[simp] theorem runForm_rla : runForm .rla s = .next ((s.rotateA .rl).setCycles 4) := rfl

@[simp] theorem runForm_rrca : runForm .rrca s = .next ((s.rotateA .rrc).setCycles 4) := rfl

@[simp] theorem runForm_rra : runForm .rra s = .next ((s.rotateA .rr).setCycles 4) := rfl

/-- A rotate's or shift's result with its flags (R174 to R189). -/
def rotOut (k : RotOp) (v : Byte) (carry : Bool) : AluOut :=
  { result := (RotOp.run k v carry).1, z := (RotOp.run k v carry).1 == 0, n := false, h := false,
    c := (RotOp.run k v carry).2 }

@[simp] theorem runForm_rot (k : RotOp) (o : Operand8) :
    runForm (.rot k o) s =
      .next ((s.putOperand o (rotOut k (s.readOperand o) s.flagC)).setCycles (costOf o 8 16)) := rfl

@[simp] theorem runForm_bit (b : Idx3) (o : Operand8) :
    runForm (.bit b o) s =
      .next ((s.setFlags (!(s.readOperand o).getLsbD (bitNumber b)) false true s.flagC).setCycles
        (costOf o 8 12)) := rfl

@[simp] theorem runForm_res (b : Idx3) (o : Operand8) :
    runForm (.res b o) s =
      .next ((s.writeOperand o (s.readOperand o &&& ~~~ bitMask b)).setCycles
        (costOf o 8 16)) := rfl

@[simp] theorem runForm_set (b : Idx3) (o : Operand8) :
    runForm (.set b o) s =
      .next ((s.writeOperand o (s.readOperand o ||| bitMask b)).setCycles (costOf o 8 16)) := rfl

/-! ### Control transfer -/

@[simp] theorem runForm_jp (nn : Word) :
    runForm (.jp nn) s = .next ((s.setPc nn).setCycles 16) := rfl

@[simp] theorem runForm_jpCc (cc : Cond) (nn : Word) :
    runForm (.jpCc cc nn) s =
      if s.holds cc then .next ((s.setPc nn).setCycles 16) else .next (s.setCycles 12) := rfl

@[simp] theorem runForm_jpHL : runForm .jpHL s = .next ((s.setPc s.hl).setCycles 4) := rfl

@[simp] theorem runForm_jr (e : Byte) :
    runForm (.jr e) s = .next ((s.setPc (addSigned s.pc e)).setCycles 12) := rfl

@[simp] theorem runForm_jrCc (cc : Cond) (e : Byte) :
    runForm (.jrCc cc e) s =
      if s.holds cc then .next ((s.setPc (addSigned s.pc e)).setCycles 12)
      else .next (s.setCycles 8) := rfl

/-- The state after a call: the return address pushed, PC at the target (R205). -/
def State.callAt (s : State) (dest : Word) : State := (s.push16 s.pc).setPc dest

/-- The state after a return: PC popped (R207). -/
def State.returned (s : State) : State := s.pop16.2.setPc s.pop16.1

@[simp] theorem State.leaveInterrupt_eq : s.leaveInterrupt = s.returned.setIme .set := rfl

@[simp] theorem runForm_call (nn : Word) :
    runForm (.call nn) s = .next ((s.callAt nn).setCycles 24) := rfl

@[simp] theorem runForm_callCc (cc : Cond) (nn : Word) :
    runForm (.callCc cc nn) s =
      if s.holds cc then .next ((s.callAt nn).setCycles 24) else .next (s.setCycles 12) := rfl

@[simp] theorem runForm_ret : runForm .ret s = .next (s.returned.setCycles 16) := rfl

@[simp] theorem runForm_retCc (cc : Cond) :
    runForm (.retCc cc) s =
      if s.holds cc then .next (s.returned.setCycles 20) else .next (s.setCycles 8) := rfl

@[simp] theorem runForm_reti :
    runForm .reti s = .next ((s.returned.setIme .set).setCycles 16) := rfl

@[simp] theorem runForm_rst (t : Idx3) :
    runForm (.rst t) s = .next ((s.callAt (restartTarget t)).setCycles 16) := rfl

end

/-! ### The byte 0xCB resolved -/

/-- An instruction runs its effect: that of 0xCB is the row its second byte selects (R226). -/
theorem exec_eq_runForm_effect (i : Instr) (s : State) : exec i s = runForm i.effect s := by
  rw [exec_eq_runForm, Instr.effect]
  split
  next op2 h => rw [h, runForm_cbPrefix]
  next => rfl

/-- The effect of an instruction is never the bare byte 0xCB (R107, R226). -/
theorem effect_ne_cbPrefix (i : Instr) (op2 : Byte) : i.effect ≠ .cbPrefix op2 := by
  rw [Instr.effect]
  split
  next op _ =>
    obtain ⟨_, _, h⟩ | ⟨_, _, h⟩ | ⟨_, _, h⟩ | ⟨_, _, h⟩ := decodeCb_cases op <;> simp [h]
  next h => exact h op2

end Sys2Proof.Machine
end

section
/-!
PROOFS. The statements of the loads, the stack, the control transfers and the system instructions.
-/

namespace Sys2Proof.Machine

/-! ### Addresses and words as the statements write them -/

theorem decWord_decWord_eq (w : Word) : decWord (decWord w) = w - 2 := by
  rw [decWord_eq, decWord_eq]
  bv_omega

theorem incWord_incWord_eq (w : Word) : incWord (incWord w) = w + 2 := by
  rw [incWord_eq, incWord_eq]
  bv_omega

@[simp] theorem State.hl_memWrite (s : State) (a : Word) (v : Byte) :
    (s.memWrite a v).hl = s.hl := by
  simp [State.hl]

theorem State.push16_eq_extract (s : State) (v : Word) :
    s.push16 v = ((s.memWrite (s.sp - 1) (v.extractLsb' 8 8)).memWrite (s.sp - 2)
      (v.extractLsb' 0 8)).setSp (s.sp - 2) := by
  rw [State.push16_eq, decWord_decWord_eq, decWord_eq, hiByte_eq_extractLsb',
    loByte_eq_extractLsb']

theorem State.pop16_fst_eq_append (s : State) :
    s.pop16.1 = s.memRead (s.sp + 1) ++ s.memRead s.sp := by
  rw [State.pop16_fst, joinBytes_eq_append, incWord_eq]

theorem State.pop16_snd_eq (s : State) : s.pop16.2 = s.setSp (s.sp + 2) := by
  rw [State.pop16_snd, incWord_incWord_eq]

theorem State.writeStk_setSp (s : State) (p : PairStk) (v w : Word) :
    (s.setSp w).writeStk p v = (s.writeStk p v).setSp w := by
  cases p <;> rfl

theorem State.returned_eq (s : State) :
    s.returned = (s.setPc (s.memRead (s.sp + 1) ++ s.memRead s.sp)).setSp (s.sp + 2) := by
  rw [State.returned, State.pop16_fst_eq_append, State.pop16_snd_eq]
  rfl

theorem State.callAt_eq (s : State) (dest : Word) :
    s.callAt dest = (((s.memWrite (s.sp - 1) (s.pc.extractLsb' 8 8)).memWrite (s.sp - 2)
      (s.pc.extractLsb' 0 8)).setSp (s.sp - 2)).setPc dest := by
  rw [State.callAt, State.push16_eq_extract]

/-! ### Loads -/

/-- Settles O31: each form's equation is the clause. -/
theorem loadsOfRegistersAndTheByteAtHL : Obligations.LoadsOfRegistersAndTheByteAtHL := fun s =>
  ⟨fun dst r => exec_instr (.ldRR dst r) s, fun dst => exec_instr (.ldRM dst) s,
    fun r => exec_instr (.ldMR r) s, fun dst n => exec_instr (.ldRN dst n) s,
    fun n => exec_instr (.ldMN n) s⟩

/-- Settles O32: HL moves after the access, which leaves HL alone. -/
theorem loadsAndStoresOfA : Obligations.LoadsAndStoresOfA := by
  intro s
  refine ⟨exec_instr (.ldAInd .bc) s, exec_instr (.ldAInd .de) s, ?_, ?_,
    exec_instr (.ldIndA .bc) s, exec_instr (.ldIndA .de) s, ?_, ?_,
    fun n => exec_instr (.ldhNA n) s, fun n => exec_instr (.ldhAN n) s, exec_instr .ldCA s,
    exec_instr .ldAC s, fun nn => exec_instr (.ldNNA nn) s, fun nn => exec_instr (.ldANN nn) s⟩
  · rw [← incWord_eq]; exact exec_instr (.ldAInd .hli) s
  · rw [← decWord_eq]; exact exec_instr (.ldAInd .hld) s
  · rw [← incWord_eq, exec_instr, runForm_ldIndA, State.indirectUpdate, State.hl_memWrite]; rfl
  · rw [← decWord_eq, exec_instr, runForm_ldIndA, State.indirectUpdate, State.hl_memWrite]; rfl

/-- Settles O33: the two bytes of SP as bit slices. -/
theorem sixteenBitLoads : Obligations.SixteenBitLoads := by
  refine fun s => ⟨fun p nn => exec_instr (.ldR16 p nn) s, fun nn => ?_, exec_instr .ldSPHL s⟩
  rw [exec_instr, runForm_ldNNSP, incWord_eq, hiByte_eq_extractLsb', loByte_eq_extractLsb']

/-- Settles O34: a push and a pop written with their two addresses. -/
theorem pushAndPop : Obligations.PushAndPop := by
  refine fun s p => ⟨?_, ?_⟩
  · rw [exec_instr, runForm_push, State.push16_eq_extract]
  · rw [exec_instr, runForm_pop, State.pop16_fst_eq_append, State.pop16_snd_eq,
      State.writeStk_setSp]

/-! ### Control transfer -/

/-- Settles O47: each condition reads its own flag. -/
theorem jumps : Obligations.Jumps := by
  refine fun s => ⟨fun nn => exec_instr (.jp nn) s, exec_instr .jpHL s,
    fun e => exec_instr (.jr e) s, fun cc nn => ?_, fun cc e => ?_⟩
  · rw [exec_instr, runForm_jpCc]
    cases cc <;> rfl
  · rw [exec_instr, runForm_jrCc]
    cases cc <;> rfl

/-- Settles O48: calls and returns as `callAt` and `returned`. -/
theorem callsRestartsAndReturns : Obligations.CallsRestartsAndReturns := by
  intro s
  simp only [← State.callAt_eq, ← State.returned_eq]
  refine ⟨fun nn => exec_instr (.call nn) s, fun cc nn => exec_instr (.callCc cc nn) s, fun t => ?_,
    exec_instr .ret s, fun cc => exec_instr (.retCc cc) s, exec_instr .reti s⟩
  rw [exec_instr, runForm_rst]
  cases t <;> rfl

/-! ### System instructions -/

theorem Ime.request_eq_ite (p : EiFromSet) (v : Ime) :
    v.request p =
      if v = .unset ∨ (v = .set ∧ p = .restart) then .pendingNewInstruction else v := by
  cases v <;> cases p <;> rfl

theorem runForm_decodeCb_completes (op2 : Byte) (s : State) :
    ∃ t, runForm (decodeCb op2) s = .next t := by
  obtain ⟨_, _, h⟩ | ⟨_, _, h⟩ | ⟨_, _, h⟩ | ⟨_, _, h⟩ := decodeCb_cases op2 <;> rw [h] <;>
    exact ⟨_, rfl⟩

/-- Settles O49: `Ime.request` for EI, and the extended table for 0xCB. -/
theorem nopDiEiStopAndThePrefix : Obligations.NopDiEiStopAndThePrefix := by
  intro s
  refine ⟨rfl, rfl, ?_, fun pad => rfl, fun op2 => ⟨?_, fun b2 => ?_, ?_⟩⟩
  · rw [← Ime.request_eq_ite]; rfl
  · rw [exec_instr]; exact runExtended_eq op2 s
  · rfl
  · obtain ⟨t, ht⟩ := runForm_decodeCb_completes op2 s
    exact ⟨t, (runExtended_eq op2 s).trans ht⟩

theorem exec_halt (s : State) : exec .halt s = runForm .halt s := rfl

theorem State.firstPending_isSome_iff (s : State) :
    s.firstPending.isSome = true ↔ s.ie &&& s.ifl &&& 0x1F ≠ 0 := by
  rw [State.firstPending_isSome, bne_iff_ne]
  rfl

/-- Settles O50: a request is pending and enabled when `IE & IF & 0x1F` is not zero. -/
theorem haltByImeAndPolicy : Obligations.HaltByImeAndPolicy := by
  intro s
  rw [exec_halt, runForm_halt]
  refine ⟨fun h => ?_, fun h hf => if_pos ⟨h, hf⟩, fun h hf h0 => ?_, fun h hf h0 => ?_⟩
  · simp [h]
  · rw [if_neg (by simp [hf]), if_neg fun hp => s.firstPending_isSome_iff.1 hp.2 h0]
  · rw [if_neg (by simp [hf]), if_pos ⟨h, s.firstPending_isSome_iff.2 h0⟩]

end Sys2Proof.Machine
end

section
/-!
PROOFS. The statements of the arithmetic and logic instructions: the model's results and flags as
the sums, differences, bits and remainders that the statements write.
-/

namespace Sys2Proof

namespace Machine

/-! ### Zero tests and digits -/

theorem ofInt_beq_zero (w : Nat) (i : Int) :
    (BitVec.ofInt w i == 0) = decide (i % ((2 ^ w : Nat) : Int) = 0) := by
  have hpos : ((2 ^ w : Nat) : Int) ≠ 0 := by positivity
  have hmod := Int.emod_nonneg i hpos
  rw [beq_eq_decide, decide_eq_decide, ← BitVec.toNat_inj, BitVec.toNat_ofInt]
  change (i % ((2 ^ w : Nat) : Int)).toNat = 0 ↔ _
  omega

theorem ofNat_beq_zero (w n : Nat) : (BitVec.ofNat w n == 0) = decide (n % 2 ^ w = 0) := by
  have h := ofInt_beq_zero w n
  rw [BitVec.ofInt_natCast] at h
  rw [h, decide_eq_decide]
  omega

theorem and_low_eq_iff (v : Byte) : (v &&& 0x0F == 0x0F) = decide (v.toNat % 16 = 15) := by
  revert v; decide

theorem and_low_eq_zero_iff (v : Byte) : (v &&& 0x0F == 0x00) = decide (v.toNat % 16 = 0) := by
  revert v; decide

/-! ### Addition, subtraction and comparison -/

section
variable (s : State) (v : Byte)

/-- The state after `A + v + cin` (R120 to R125, R152). -/
theorem State.putAlu_add8 (cin : Bool) :
    let a := s.regs.a.toNat
    let sum := a + v.toNat + if cin then 1 else 0
    s.putAlu (add8 (s.getReg .a) v cin) =
      (s.setReg .a (BitVec.ofNat 8 sum)).setFlags (decide (sum % 256 = 0)) false
        (decide (a % 16 + v.toNat % 16 + (if cin then 1 else 0) > 0x0F)) (decide (sum > 0xFF)) := by
  simp only [State.putAlu, add8, ofNat_beq_zero]
  cases cin <;> rfl

theorem sub8_eq (a : Byte) (cin : Bool) :
    let borrow : Int := if cin then 1 else 0
    let x : Int := a.toNat
    sub8 a v cin = ⟨BitVec.ofInt 8 (x - v.toNat - borrow),
      decide ((x - v.toNat - borrow) % 256 = 0), true,
      decide (x % 16 - v.toNat % 16 - borrow < 0), decide (x - v.toNat - borrow < 0)⟩ := by
  have hborrow : (cin.toNat : Int) = if cin then 1 else 0 := by cases cin <;> rfl
  have hhalf : decide (a.toNat % 16 < v.toNat % 16 + cin.toNat) =
      decide ((a.toNat : Int) % 16 - v.toNat % 16 - cin.toNat < 0) := by
    rw [decide_eq_decide]
    omega
  simp only [sub8, ofInt_beq_zero, ← hborrow, ← hhalf]
  rfl

/-- The state after `A - v - cin` (R126 to R131, R153). -/
theorem State.putAlu_sub8 (cin : Bool) :
    let a : Int := s.regs.a.toNat
    let borrow : Int := if cin then 1 else 0
    s.putAlu (sub8 (s.getReg .a) v cin) =
      (s.setReg .a (BitVec.ofInt 8 (a - v.toNat - borrow))).setFlags
        (decide ((a - v.toNat - borrow) % 256 = 0)) true
        (decide (a % 16 - v.toNat % 16 - borrow < 0)) (decide (a - v.toNat - borrow < 0)) := by
  rw [sub8_eq]
  rfl

/-- The state after a comparison: the flags of `A - v`, and A as it was (R141 to R143). -/
theorem State.putAlu_cp (carry : Bool) :
    s.putAlu (AluOp.run .cp (s.getReg .a) v carry) =
      s.setFlags (decide (s.regs.a = v)) true (decide (s.regs.a.toNat % 16 < v.toNat % 16))
        (decide (s.regs.a.toNat < v.toNat)) := by
  have hz : (BitVec.ofInt 8 ((s.regs.a.toNat : Int) - v.toNat - 0) == 0) =
      decide (s.regs.a = v) := by
    rw [ofInt_beq_zero, decide_eq_decide, ← BitVec.toNat_inj]
    omega
  have hc : decide ((s.regs.a.toNat : Int) - v.toNat - 0 < 0) =
      decide (s.regs.a.toNat < v.toNat) := by
    rw [decide_eq_decide]
    omega
  rw [← hz, ← hc]
  rfl

end

/-- Settles O35: one equation for the sum serves the three operand forms. -/
theorem addAndAdc : Obligations.AddAndAdc := by
  intro s withCarry
  have hrun : ∀ v, AluOp.run (if withCarry then .adc else .add) (s.getReg .a) v s.flagC =
      add8 (s.getReg .a) v (withCarry && s.flagC) := by
    intro v; cases withCarry <;> rfl
  refine ⟨fun r => ?_, ?_, fun n => ?_⟩
  · rw [exec_instr, runForm_alu, hrun, State.putAlu_add8]; rfl
  · rw [exec_instr, runForm_alu, hrun, State.putAlu_add8]; rfl
  · rw [exec_instr, runForm_aluN, hrun, State.putAlu_add8]

/-- Settles O36: one equation each for the difference and for the comparison. -/
theorem subSbcAndCp : Obligations.SubSbcAndCp := by
  intro s withCarry
  have hrun : ∀ v, AluOp.run (if withCarry then .sbc else .sub) (s.getReg .a) v s.flagC =
      sub8 (s.getReg .a) v (withCarry && s.flagC) := by
    intro v; cases withCarry <;> rfl
  refine ⟨fun r => ?_, ?_, fun n => ?_, fun r => ?_, ?_, fun n => ?_⟩
  · rw [exec_instr, runForm_alu, hrun, State.putAlu_sub8]; rfl
  · rw [exec_instr, runForm_alu, hrun, State.putAlu_sub8]; rfl
  · rw [exec_instr, runForm_aluN, hrun, State.putAlu_sub8]
  · rw [exec_instr, runForm_alu, State.putAlu_cp]; rfl
  · rw [exec_instr, runForm_alu, State.putAlu_cp]; rfl
  · rw [exec_instr, runForm_aluN, State.putAlu_cp]

/-! ### Logic -/

theorem and_eq_ofFnLE (a v : Byte) :
    a &&& v = BitVec.ofFnLE fun j : Fin 8 => a.getLsbD j && v.getLsbD j :=
  BitVec.eq_of_getLsbD_eq fun i hi => by
    rw [BitVec.getLsbD_ofFnLE, dif_pos hi, BitVec.getLsbD_and]

theorem xor_eq_ofFnLE (a v : Byte) :
    a ^^^ v = BitVec.ofFnLE fun j : Fin 8 => a.getLsbD j != v.getLsbD j :=
  BitVec.eq_of_getLsbD_eq fun i hi => by
    rw [BitVec.getLsbD_ofFnLE, dif_pos hi, BitVec.getLsbD_xor]

theorem or_eq_ofFnLE (a v : Byte) :
    a ||| v = BitVec.ofFnLE fun j : Fin 8 => a.getLsbD j || v.getLsbD j :=
  BitVec.eq_of_getLsbD_eq fun i hi => by
    rw [BitVec.getLsbD_ofFnLE, dif_pos hi, BitVec.getLsbD_or]

/-- Settles O37: the result bit by bit, for the three operators at once. -/
theorem andXorOr : Obligations.AndXorOr := by
  intro s result out k hk
  have hput : ∀ v, s.putAlu (AluOp.run k (s.getReg .a) v s.flagC) =
      (s.setReg .a (result k v)).setFlags (decide (result k v = 0)) false (decide (k = .and))
        false := by
    intro v
    simp only [List.mem_cons, List.not_mem_nil, or_false] at hk
    obtain rfl | rfl | rfl := hk
    · simp only [result, ← and_eq_ofFnLE, ← beq_eq_decide]; rfl
    · simp only [result, ← xor_eq_ofFnLE, ← beq_eq_decide]; rfl
    · simp only [result, ← or_eq_ofFnLE, ← beq_eq_decide]; rfl
  refine ⟨fun r => ?_, ?_, fun n => ?_⟩
  · rw [exec_instr, runForm_alu, hput]; rfl
  · rw [exec_instr, runForm_alu, hput]; rfl
  · rw [exec_instr, runForm_aluN, hput]

/-! ### Increment and decrement -/

theorem inc8_eq (v : Byte) (carry : Bool) :
    inc8 v carry = ⟨BitVec.ofNat 8 (v.toNat + 1), decide (v.toNat = 0xFF), false,
      decide (v.toNat % 16 = 15), carry⟩ := by
  have hz : decide ((v.toNat + 1) % 2 ^ 8 = 0) = decide (v.toNat = 0xFF) := by
    rw [decide_eq_decide]; omega
  simp only [inc8, ofNat_beq_zero, hz, and_low_eq_iff]

theorem dec8_eq (v : Byte) (carry : Bool) :
    dec8 v carry = ⟨BitVec.ofNat 8 (v.toNat + 255), decide (v.toNat = 1), true,
      decide (v.toNat % 16 = 0), carry⟩ := by
  have hr : BitVec.ofInt 8 ((v.toNat : Int) - 1) = BitVec.ofNat 8 (v.toNat + 255) := by
    apply BitVec.eq_of_toNat_eq
    rw [BitVec.toNat_ofInt, BitVec.toNat_ofNat]
    omega
  have hz : decide ((v.toNat + 255) % 2 ^ 8 = 0) = decide (v.toNat = 1) := by
    rw [decide_eq_decide]; omega
  simp only [dec8, hr, ofNat_beq_zero, hz, and_low_eq_zero_iff]

/-- Settles O38: `inc8` and `dec8` as sums modulo 256. -/
theorem incAndDecOfBytes : Obligations.IncAndDecOfBytes := by
  intro s
  refine ⟨fun r => ?_, fun r => ?_, ?_, ?_⟩
  · rw [exec_instr, runForm_inc8, inc8_eq]; rfl
  · rw [exec_instr, runForm_dec8, dec8_eq]; rfl
  · rw [exec_instr, runForm_inc8, inc8_eq]; rfl
  · rw [exec_instr, runForm_dec8, dec8_eq]; rfl

/-! ### Decimal adjustment -/

theorem and_high_gt_iff (v : Byte) :
    decide ((v &&& 0xF0).toNat > 0x90) = decide (v.toNat / 16 > 9) := by
  revert v; decide

/-- A correction by 6 or by 0x60. -/
def correction (amount : Int) (applies : Bool) : Int := if applies then amount else 0

theorem ofNat_add_corrections (a : Byte) (p q : Bool) :
    BitVec.ofNat 8 (a.toNat + ((if p then 0x06 else 0x00) + if q then 0x60 else 0x00)) =
      BitVec.ofInt 8 (a.toNat + (correction 0x06 p + correction 0x60 q)) := by
  cases p <;> cases q <;> rfl

theorem decide_lowDigit (a : Byte) :
    decide (a.toNat % 16 > 0x09) = decide ((a.toNat : Int) % 16 > 9) := by
  rw [decide_eq_decide]; omega

section
variable (a : Byte) (h c : Bool)

theorem daaSm83_sub :
    daaSm83 a true h c =
      (BitVec.ofInt 8 (a.toNat - (correction 0x06 h + correction 0x60 c)), c) := rfl

theorem daaSm83_add :
    let low : Bool := h || decide ((a.toNat : Int) % 16 > 9)
    let high : Bool := c || decide ((a.toNat : Int) > 0x99)
    daaSm83 a false h c =
      (BitVec.ofInt 8 (a.toNat + (correction 0x06 low + correction 0x60 high)), high) := by
  have hhigh : decide (a.toNat > 0x99) = decide ((a.toNat : Int) > 0x99) := by
    rw [decide_eq_decide]; omega
  simp only [daaSm83, Bool.false_eq_true, if_false, ofNat_add_corrections, decide_lowDigit, hhigh]

theorem daaOriginal_eq :
    let low : Bool := h || decide ((a.toNat : Int) % 16 > 9)
    let high : Bool := c || decide ((a.toNat : Int) / 16 > 9)
    daaOriginal a h c =
      (BitVec.ofInt 8 (a.toNat + (correction 0x06 low + correction 0x60 high)), high) := by
  have hhigh : decide (a.toNat / 16 > 9) = decide ((a.toNat : Int) / 16 > 9) := by
    rw [decide_eq_decide]; omega
  simp only [daaOriginal, ofNat_add_corrections, decide_lowDigit, and_high_gt_iff, hhigh]

theorem daaSequential_eq :
    let low : Int := correction 0x06 (h || decide ((a.toNat : Int) % 16 > 9))
    let high : Bool := c || decide ((a.toNat + low) % 256 / 16 > 9)
    daaSequential a h c = (BitVec.ofInt 8 (a.toNat + (low + correction 0x60 high)), high) := by
  intro low high
  have ha1 : (if h || decide (a.toNat % 16 > 0x09) then BitVec.ofNat 8 (a.toNat + 0x06) else a) =
      BitVec.ofInt 8 (a.toNat + low) := by
    simp only [low, correction, decide_lowDigit]
    split_ifs
    · rfl
    · rw [add_zero, BitVec.ofInt_natCast, BitVec.ofNat_toNat, BitVec.setWidth_eq]
  have hnat : ((BitVec.ofInt 8 (a.toNat + low)).toNat : Int) = (a.toNat + low) % 256 := by
    rw [BitVec.toNat_ofInt]
    omega
  have htest : decide ((BitVec.ofInt 8 (a.toNat + low)).toNat / 16 > 9) =
      decide ((a.toNat + low) % 256 / 16 > 9) := by
    rw [decide_eq_decide, ← hnat]
    omega
  have hsum : BitVec.ofNat 8 ((BitVec.ofInt 8 (a.toNat + low)).toNat + 0x60) =
      BitVec.ofInt 8 (a.toNat + (low + 0x60)) := by
    apply BitVec.eq_of_toNat_eq
    rw [BitVec.toNat_ofNat, BitVec.toNat_ofInt (a.toNat + (low + 0x60))]
    omega
  simp only [daaSequential, ha1, and_high_gt_iff, htest]
  change (if high = true then _ else _) = _
  cases high
  · simp only [correction, Bool.false_eq_true, if_false, add_zero]
  · simp only [correction, if_true, hsum]

end

/-- The three readings of DAA by tests on the accumulator as an integer (R148). -/
theorem daa8_eq (variant : DaaVariant) (acc : Byte) (n h c : Bool) :
    let a : Int := acc.toNat
    let lowTest : Bool := h || decide (a % 16 > 9)
    let subtracting : Bool := n && decide (variant = .sm83)
    let low : Int := if (if subtracting then h else lowTest) then 0x06 else 0x00
    let applies : Bool :=
      c || match variant with
        | .sm83 => !n && decide (a > 0x99)
        | .docSequential => decide ((a + low) % 256 / 16 > 9)
        | .docOriginal => decide (a / 16 > 9)
    let adjustment : Int := low + if applies then 0x60 else 0x00
    let value : Int := if subtracting then a - adjustment else a + adjustment
    daa8 variant acc n h c =
      ⟨BitVec.ofInt 8 value, decide (value % 256 = 0), n, false, applies⟩ := by
  intro a lowTest subtracting low applies adjustment value
  have hz : decide (value % 256 = 0) = (BitVec.ofInt 8 value == 0) := (ofInt_beq_zero 8 value).symm
  rw [hz]
  cases variant
  case sm83 =>
    cases n
    · rw [daa8, daaSm83_add]
      rfl
    · rw [daa8, daaSm83_sub]
      cases c <;> rfl
  case docSequential =>
    rw [daa8, daaSequential_eq]
    cases n <;> rfl
  case docOriginal =>
    rw [daa8, daaOriginal_eq]
    cases n <;> rfl

/-! ### Decimal sums and differences -/

/-- Two decimal digits packed in a byte. -/
def packed (m : Nat) : Byte := BitVec.ofNat 8 (16 * (m / 10) + m % 10)

theorem toNat_packed (m : Nat) (h : m < 100) : (packed m).toNat = 16 * (m / 10) + m % 10 := by
  rw [packed, BitVec.toNat_ofNat]
  omega

/-- A byte with decimal digits `t` and `u`, whatever was carried out of it. -/
theorem ofInt_eq_packed (t u : Nat) (n : Int) (m : Nat) (ht : t < 10) (hu : u < 10)
    (hm : m = 10 * t + u) (hn : n % 256 = 16 * t + u) : BitVec.ofInt 8 n = packed m := by
  apply BitVec.eq_of_toNat_eq
  rw [toNat_packed m (by omega), BitVec.toNat_ofInt]
  change (n % 256).toNat = _
  omega

/-- The corrections turn tens `p` and units `q` of a sum, each still uncarried, into decimal
digits. -/
theorem corrected_sum (p q : Nat) (hp : p ≤ 18) (hq : q ≤ 19) :
    BitVec.ofInt 8 (((16 * p + q) % 256 : Nat) +
        (correction 0x06 (decide (q > 9)) + correction 0x60 (decide (100 ≤ 10 * p + q)))) =
      packed ((10 * p + q) % 100) := by
  simp only [correction, decide_eq_true_iff]
  split_ifs
  · exact ofInt_eq_packed (p - 9) (q - 10) _ _ (by omega) (by omega) (by omega) (by omega)
  · exact ofInt_eq_packed (p + 1) (q - 10) _ _ (by omega) (by omega) (by omega) (by omega)
  · exact ofInt_eq_packed (p - 10) q _ _ (by omega) (by omega) (by omega) (by omega)
  · exact ofInt_eq_packed p q _ _ (by omega) (by omega) (by omega) (by omega)

/-- The same for a difference, whose tens and units may be negative. -/
theorem corrected_difference (p q : Int) (hp : -9 ≤ p ∧ p ≤ 9) (hq : -10 ≤ q ∧ q ≤ 9) :
    BitVec.ofInt 8 ((16 * p + q) % 256 -
        (correction 0x06 (decide (q < 0)) + correction 0x60 (decide (10 * p + q < 0)))) =
      packed ((10 * p + q + 200) % 100).toNat := by
  simp only [correction, decide_eq_true_iff]
  split_ifs
  · exact ofInt_eq_packed (p + 9).toNat (q + 10).toNat _ _
      (by omega) (by omega) (by omega) (by omega)
  · exact ofInt_eq_packed (p - 1).toNat (q + 10).toNat _ _
      (by omega) (by omega) (by omega) (by omega)
  · exact ofInt_eq_packed (p + 10).toNat q.toNat _ _ (by omega) (by omega) (by omega) (by omega)
  · exact ofInt_eq_packed p.toNat q.toNat _ _ (by omega) (by omega) (by omega) (by omega)

section
variable (x y : Nat) (hx : x < 100) (hy : y < 100) (cin : Bool)
include hx hy

/-- DAA corrects the binary sum of two packed numbers to the decimal one. -/
theorem daaSm83_add8 :
    let r := add8 (packed x) (packed y) cin
    daaSm83 r.result false r.h r.c =
      (packed ((x + y + cin.toNat) % 100), decide (100 ≤ x + y + cin.toNat)) := by
  intro r
  have hcin : cin.toNat ≤ 1 := Bool.toNat_le cin
  have hx' := toNat_packed x hx
  have hy' := toNat_packed y hy
  obtain ⟨p, hp⟩ : ∃ p, p = x / 10 + y / 10 := ⟨_, rfl⟩
  obtain ⟨q, hq⟩ : ∃ q, q = x % 10 + y % 10 + cin.toNat := ⟨_, rfl⟩
  have hdecimal : x + y + cin.toNat = 10 * p + q := by omega
  have hbinary : (packed x).toNat + (packed y).toNat + cin.toNat = 16 * p + q := by omega
  have hresult : r.result.toNat = (16 * p + q) % 256 := by rw [← hbinary]; rfl
  have hc : r.c = decide (16 * p + q > 255) := by rw [← hbinary]; rfl
  have hh : r.h = decide (q > 15) := by
    simp only [r, add8, decide_eq_decide]
    omega
  have hlow : (r.h || decide ((r.result.toNat : Int) % 16 > 9)) = decide (q > 9) := by
    rw [hh, hresult, ← Bool.decide_or, decide_eq_decide]
    omega
  have hhigh : (r.c || decide ((r.result.toNat : Int) > 0x99)) = decide (100 ≤ 10 * p + q) := by
    rw [hc, hresult, ← Bool.decide_or, decide_eq_decide]
    omega
  rw [daaSm83_add, hlow, hhigh, hresult, hdecimal, corrected_sum p q (by omega) (by omega)]

/-- DAA corrects the binary difference of two packed numbers to the decimal one. -/
theorem daaSm83_sub8 :
    let r := sub8 (packed x) (packed y) cin
    daaSm83 r.result true r.h r.c =
      (packed ((x + 200 - y - cin.toNat) % 100), decide (x < y + cin.toNat)) := by
  intro r
  have hcin : cin.toNat ≤ 1 := Bool.toNat_le cin
  have hx' := toNat_packed x hx
  have hy' := toNat_packed y hy
  obtain ⟨p, hp⟩ : ∃ p : Int, p = x / 10 - y / 10 := ⟨_, rfl⟩
  obtain ⟨q, hq⟩ : ∃ q : Int, q = x % 10 - y % 10 - cin.toNat := ⟨_, rfl⟩
  have hdecimal : ((x : Int) - y - cin.toNat) = 10 * p + q := by omega
  have hbinary : ((packed x).toNat - (packed y).toNat - cin.toNat : Int) = 16 * p + q := by omega
  have hresult : (r.result.toNat : Int) = (16 * p + q) % 256 := by
    simp only [r, sub8, hbinary, BitVec.toNat_ofInt]
    omega
  have hlow : r.h = decide (q < 0) := by
    simp only [r, sub8, decide_eq_decide]
    omega
  have hhigh : r.c = decide (10 * p + q < 0) := by
    simp only [r, sub8, hbinary, decide_eq_decide]
    omega
  have hborrow : decide (x < y + cin.toNat) = decide (10 * p + q < 0) := by
    rw [← hdecimal, decide_eq_decide]
    omega
  have hdigits : (x + 200 - y - cin.toNat) % 100 = ((10 * p + q + 200) % 100).toNat := by omega
  rw [daaSm83_sub, hlow, hhigh, hresult, hborrow, hdigits,
    corrected_difference p q (by omega) (by omega)]

end

/-- What DAA in its default reading leaves in A and C, run on a result and its flags. -/
theorem exec_daa_of_putAlu (s : State) (r : AluOut) (k : Nat) (hv : s.cfg.daaVariant = .sm83) :
    ∃ u, exec .daa ((s.putAlu r).setCycles k) = .next u ∧
      (u.regs.a, u.flagC) = daaSm83 r.result r.n r.h r.c := by
  have ha : ((s.putAlu r).setCycles k).getReg .a = r.result := rfl
  have hn : ((s.putAlu r).setCycles k).flagN = r.n := State.flagN_setFlags _ _ _ _ _
  have hh : ((s.putAlu r).setCycles k).flagH = r.h := State.flagH_setFlags _ _ _ _ _
  have hc : ((s.putAlu r).setCycles k).flagC = r.c := State.flagC_setFlags _ _ _ _ _
  have hcfg : ((s.putAlu r).setCycles k).cfg.daaVariant = .sm83 := hv
  refine ⟨_, runForm_daa _, ?_⟩
  rw [ha, hn, hh, hc, hcfg]
  exact Prod.ext rfl (State.flagC_setFlags _ _ _ _ _)

/-- Settles O40: `daaSm83_add8` and `daaSm83_sub8` at the flags the operation leaves. -/
theorem daaGivesDecimalSumsAndDifferences : Obligations.DaaGivesDecimalSumsAndDifferences := by
  intro s x y cin pk hv ha hcin
  subst hcin
  have hpacked : s.getReg .a = packed x := ha
  have hadc : exec (.adcA_N (packed y)) s =
      .next ((s.putAlu (add8 (packed x) (packed y) s.flagC)).setCycles 8) := by
    rw [← hpacked]
    exact exec_instr (.aluN .adc (packed y)) s
  have hsbc : exec (.sbcA_N (packed y)) s =
      .next ((s.putAlu (sub8 (packed x) (packed y) s.flagC)).setCycles 8) := by
    rw [← hpacked]
    exact exec_instr (.aluN .sbc (packed y)) s
  obtain ⟨u, hu, hau⟩ := exec_daa_of_putAlu s (add8 (packed x) (packed y) s.flagC) 8 hv
  obtain ⟨w, hw, haw⟩ := exec_daa_of_putAlu s (sub8 (packed x) (packed y) s.flagC) 8 hv
  obtain ⟨hu1, hu2⟩ := Prod.mk.inj (hau.trans (daaSm83_add8 x y x.isLt y.isLt s.flagC))
  obtain ⟨hw1, hw2⟩ := Prod.mk.inj (haw.trans (daaSm83_sub8 x y x.isLt y.isLt s.flagC))
  exact ⟨⟨_, u, hadc, hu, hu1, hu2⟩, _, w, hsbc, hw, hw1, hw2⟩

/-! ### The accumulator and the carry flag -/

/-- Settles O41: the complement of A is `255 - A`. -/
theorem complementAndCarryFlag : Obligations.ComplementAndCarryFlag := by
  intro s
  refine ⟨?_, rfl, rfl⟩
  have hnot : s.getReg .a ^^^ 0xFF = BitVec.ofNat 8 (255 - s.regs.a.toNat) := by
    have h : s.regs.a ^^^ 0xFF = ~~~ s.regs.a := BitVec.xor_allOnes
    apply BitVec.eq_of_toNat_eq
    change (s.regs.a ^^^ 0xFF).toNat = _
    rw [h, BitVec.toNat_not, BitVec.toNat_ofNat]
    omega
  rw [← hnot]
  rfl

/-! ### 16-bit arithmetic -/

/-- Settles O42: the zero test of the sum as a remainder. -/
theorem pairArithmetic : Obligations.PairArithmetic := by
  refine fun s p => ⟨?_, ?_, ?_⟩
  · rw [exec_instr, runForm_addHL]
    simp only [add16, ofNat_beq_zero]
    rfl
  · rw [exec_instr, runForm_incR16, incWord_eq]
  · rw [exec_instr, runForm_decR16, decWord_eq]

/-- Settles O43: both instructions take sum and carries from one operation. -/
theorem stackPointerPlusDisplacement : Obligations.StackPointerPlusDisplacement := by
  refine fun s e => ⟨?_, ?_⟩
  · rw [exec_instr, runForm_addSP]
    simp only [addSpByte, beq_eq_decide]
    rfl
  · exact exec_instr (.ldHLSP e) s

end Machine

/-- Settles O39: `daa8_eq` at the state's accumulator and flags. -/
theorem decimalAdjust : Obligations.DecimalAdjust := by
  intro s
  change Machine.runForm .daa s = _
  rw [Machine.runForm_daa, Machine.daa8_eq]
  rfl

end Sys2Proof
end

section
/-!
PROOFS. The statements of the rotates, shifts and single-bit instructions, bit by bit.
-/

namespace Sys2Proof.Machine

/-! ### Rotates and shifts -/

@[simp] theorem bitByte_getLsbD (b : Bool) (j : Nat) :
    (bitByte b).getLsbD j = (b && decide (j = 0)) := by
  cases b <;> simp [bitByte, BitVec.getLsbD_one]

theorem and_topBit_eq (v : Byte) : v &&& (0x80 : Byte) = bitByte (v.getLsbD 7) <<< 7 := by
  revert v; decide

section
variable (v : Byte) (b : Bool) (j : Fin 8)

/-- A shift to the left with a bit let in below. -/
theorem getLsbD_shiftLeft_or :
    ((v <<< 1) ||| bitByte b).getLsbD j = if j.val = 0 then b else v.getLsbD (j.val - 1) := by
  have hj := j.isLt
  rw [BitVec.getLsbD_or, BitVec.getLsbD_shiftLeft, bitByte_getLsbD]
  split_ifs with h
  · simp [h]
  · simp [h, hj]

/-- A shift to the right with a bit let in above. -/
theorem getLsbD_ushiftRight_or :
    ((v >>> 1) ||| (bitByte b <<< 7)).getLsbD j =
      if j.val = 7 then b else v.getLsbD (j.val + 1) := by
  have hj := j.isLt
  rw [BitVec.getLsbD_or, BitVec.getLsbD_ushiftRight, BitVec.getLsbD_shiftLeft, bitByte_getLsbD,
    Nat.add_comm 1]
  split_ifs with h
  · simp [h]
  · have hlt : j.val < 7 := by omega
    simp [hlt]

theorem getLsbD_swap : ((v <<< 4) ||| (v >>> 4)).getLsbD j = v.getLsbD ((j.val + 4) % 8) := by
  have hj := j.isLt
  rw [BitVec.getLsbD_or, BitVec.getLsbD_shiftLeft, BitVec.getLsbD_ushiftRight]
  by_cases h : j.val < 4
  · have hmod : (j.val + 4) % 8 = 4 + j.val := by omega
    simp [h, hmod]
  · have hmod : (j.val + 4) % 8 = j.val - 4 := by omega
    have hout : v.getLsbD (4 + j.val) = false := BitVec.getLsbD_of_ge v _ (by omega)
    simp [h, hj, hmod, hout]

end

/-- Settles O44: the three shapes of a shift: left, right and swap. -/
theorem rotatesAndShiftsBitByBit : Obligations.RotatesAndShiftsBitByBit := by
  intro k v cin
  refine ⟨fun j => ?_, by cases k <;> rfl⟩
  have hj := j.isLt
  cases k <;> simp only [RotOp.run]
  case rlc =>
    rw [getLsbD_shiftLeft_or]
    split_ifs with h
    · rw [h]
    · congr 1; omega
  case rrc =>
    rw [getLsbD_ushiftRight_or]
    split_ifs with h
    · rw [h]
    · congr 1; omega
  case rl => exact getLsbD_shiftLeft_or v cin j
  case rr => exact getLsbD_ushiftRight_or v cin j
  case sla => simpa [bitByte] using getLsbD_shiftLeft_or v false j
  case sra =>
    rw [and_topBit_eq]
    exact getLsbD_ushiftRight_or v (v.getLsbD 7) j
  case swap => exact getLsbD_swap v j
  case srl => simpa [bitByte] using getLsbD_ushiftRight_or v false j

/-- Settles O45: the zero test of the rotated byte, for both operand kinds. -/
theorem rotateAndShiftInstructions : Obligations.RotateAndShiftInstructions := by
  refine fun s => ⟨rfl, rfl, rfl, rfl, fun k r => ?_, fun k => ?_⟩
  · rw [exec_instr, runForm_rot, rotOut, beq_eq_decide]; rfl
  · rw [exec_instr, runForm_rot, rotOut, beq_eq_decide]; rfl

/-! ### Single bits -/

theorem bitNumber_eq_val (b : Idx3) : bitNumber b = b.val := by
  cases b <;> rfl

theorem getLsbD_bitMask (b : Idx3) (j : Fin 8) :
    (bitMask b).getLsbD j = decide (j.val = b.val) := by
  cases b <;> revert j <;> decide

theorem not_getLsbD_eq_decide (v : Byte) (n : Nat) :
    (!v.getLsbD n) = decide (v.toNat / 2 ^ n % 2 = 0) := by
  rw [← BitVec.testBit_toNat, Nat.testBit_eq_decide_div_mod_eq, ← decide_not, decide_eq_decide]
  omega

theorem and_not_bitMask_eq_ofFnLE (v : Byte) (b : Idx3) :
    v &&& ~~~ bitMask b =
      BitVec.ofFnLE fun j : Fin 8 => if j.val = b.val then false else v.getLsbD j :=
  BitVec.eq_of_getLsbD_eq fun i hi => by
    have hb := getLsbD_bitMask b ⟨i, hi⟩
    rw [BitVec.getLsbD_ofFnLE, dif_pos hi, BitVec.getLsbD_and, BitVec.getLsbD_not, hb]
    split_ifs with h <;> simp_all

theorem or_bitMask_eq_ofFnLE (v : Byte) (b : Idx3) :
    v ||| bitMask b =
      BitVec.ofFnLE fun j : Fin 8 => if j.val = b.val then true else v.getLsbD j :=
  BitVec.eq_of_getLsbD_eq fun i hi => by
    have hb := getLsbD_bitMask b ⟨i, hi⟩
    rw [BitVec.getLsbD_ofFnLE, dif_pos hi, BitVec.getLsbD_or, hb]
    split_ifs with h <;> simp_all

/-- Settles O46: the masked bytes bit by bit. -/
theorem bitResAndSet : Obligations.BitResAndSet := by
  intro s b tested written
  refine ⟨fun r => ?_, ?_, fun r => ?_, ?_, fun r => ?_, ?_⟩
  · rw [exec_instr, runForm_bit, not_getLsbD_eq_decide, bitNumber_eq_val]; rfl
  · rw [exec_instr, runForm_bit, not_getLsbD_eq_decide, bitNumber_eq_val]; rfl
  · rw [exec_instr, runForm_res, and_not_bitMask_eq_ofFnLE]; rfl
  · rw [exec_instr, runForm_res, and_not_bitMask_eq_ofFnLE]; rfl
  · rw [exec_instr, runForm_set, or_bitMask_eq_ofFnLE]; rfl
  · rw [exec_instr, runForm_set, or_bitMask_eq_ofFnLE]; rfl

end Sys2Proof.Machine
end

section
/-!
PROOFS. What an instruction changes and what it leaves alone: the devices and the memory, the flags,
the registers, IME, the low-power states and the cost.
-/

namespace Sys2Proof.Machine

/-! ### Everything behind the address space -/

/-- What reads and writes of the address space depend on and can change, with the parameters and the
host's inputs: everything of the state but the registers, IME, the low-power states and the cost. -/
def State.bus (s : State) : Timer × Byte × Byte × Byte × Memory × Config × List HostInput :=
  (s.timer, s.ifl, s.ie, s.joyp, s.mem, s.cfg, s.host)

section
variable (s : State)

@[simp] theorem State.bus_setRegs (v : Regs) : (s.setRegs v).bus = s.bus := rfl
@[simp] theorem State.bus_setSp (v : Word) : (s.setSp v).bus = s.bus := rfl
@[simp] theorem State.bus_setPc (v : Word) : (s.setPc v).bus = s.bus := rfl
@[simp] theorem State.bus_setIme (v : Ime) : (s.setIme v).bus = s.bus := rfl
@[simp] theorem State.bus_setHalted (v : Bool) : (s.setHalted v).bus = s.bus := rfl
@[simp] theorem State.bus_setStopped (v : Bool) : (s.setStopped v).bus = s.bus := rfl
@[simp] theorem State.bus_setHaltBug (v : Bool) : (s.setHaltBug v).bus = s.bus := rfl
@[simp] theorem State.bus_setCycles (v : Nat) : (s.setCycles v).bus = s.bus := rfl
@[simp] theorem State.bus_setReg (r : Reg8) (v : Byte) : (s.setReg r v).bus = s.bus := rfl
@[simp] theorem State.bus_setHl (v : Word) : (s.setHl v).bus = s.bus := rfl
@[simp] theorem State.bus_putAlu (r : AluOut) : (s.putAlu r).bus = s.bus := rfl
@[simp] theorem State.bus_setFlags (z n h c : Bool) : (s.setFlags z n h c).bus = s.bus := rfl
@[simp] theorem State.bus_rotateA (k : RotOp) : (s.rotateA k).bus = s.bus := rfl
@[simp] theorem State.bus_returned : s.returned.bus = s.bus := rfl

@[simp] theorem State.bus_indirectUpdate (i : Indirect) : (s.indirectUpdate i).bus = s.bus := by
  cases i <;> rfl

@[simp] theorem State.bus_writePair (p : Pair16) (v : Word) : (s.writePair p v).bus = s.bus := by
  cases p <;> rfl

@[simp] theorem State.bus_writeStk (p : PairStk) (v : Word) : (s.writeStk p v).bus = s.bus := by
  cases p <;> rfl

end

/-- A read sees nothing but what is behind the address space. -/
theorem State.memRead_eq_of_bus_eq {s t : State} (h : s.bus = t.bus) (a : Word) :
    s.memRead a = t.memRead a := by
  simp only [State.bus, Prod.mk.injEq] at h
  obtain ⟨htimer, hifl, hie, hjoyp, hmem, hcfg, -⟩ := h
  simp only [State.memRead, htimer, hifl, hie, hjoyp, hmem, hcfg]

/-- Bytes stored one after the other. -/
def State.storeAll (s : State) : List (Word × Byte) → State
  | [] => s
  | (a, v) :: rest => (s.memWrite a v).storeAll rest

/-- The stores of a write to an 8-bit operand: one for the byte at HL, none for a register. -/
def State.operandStores (s : State) (v : Byte) : Operand8 → List (Word × Byte)
  | .reg _ => []
  | .atHL => [(s.hl, v)]

/-- The two stores of a push (R71). -/
def State.pushStores (s : State) (v : Word) : List (Word × Byte) :=
  [(decWord s.sp, hiByte v), (decWord (decWord s.sp), loByte v)]

theorem State.bus_writeOperand (s : State) (o : Operand8) (v : Byte) :
    (s.writeOperand o v).bus = (s.storeAll (s.operandStores v o)).bus := by
  cases o <;> rfl

theorem State.bus_push16 (s : State) (v : Word) :
    (s.push16 v).bus = (s.storeAll (s.pushStores v)).bus := by
  simp [State.push16_eq, State.storeAll, State.pushStores]

/-- What every instruction does behind the address space: it stores bytes at the addresses
`storedAt` lists, in that order, and nothing else (R54, R230, R260). -/
theorem runForm_stores (f : Form) (s t : State) (hf : ∀ op2, f ≠ .cbPrefix op2)
    (h : runForm f s = .next t) :
    ∃ ws : List (Word × Byte), ws.map Prod.fst = s.storedAt f ∧ t.bus = (s.storeAll ws).bus := by
  cases f
  case cbPrefix op2 => exact absurd rfl (hf op2)
  case illegal => cases h
  case halt =>
    simp only [runForm_halt] at h
    split_ifs at h <;> cases h <;> exact ⟨[], rfl, rfl⟩
  case jpCc | jrCc | retCc =>
    simp only [runForm_jpCc, runForm_jrCc, runForm_retCc] at h
    split_ifs at h <;> cases h <;> exact ⟨[], rfl, rfl⟩
  case callCc =>
    simp only [runForm_callCc] at h
    split_ifs at h with hc <;> cases h
    · exact ⟨s.pushStores s.pc, by simp only [State.storedAt, hc]; rfl, s.bus_push16 _⟩
    · exact ⟨[], by simp [State.storedAt, hc], rfl⟩
  all_goals obtain rfl := Host.Outcome.next.inj h
  case ldMR r => exact ⟨[(s.hl, s.getReg r)], rfl, rfl⟩
  case ldMN n => exact ⟨[(s.hl, n)], rfl, rfl⟩
  case ldIndA i =>
    exact ⟨[(s.indirectAddress i, s.getReg .a)], rfl, by simp [State.storeAll]⟩
  case ldhNA n => exact ⟨[(highPage n, s.getReg .a)], rfl, rfl⟩
  case ldCA => exact ⟨[(highPage (s.getReg .c), s.getReg .a)], rfl, rfl⟩
  case ldNNA nn => exact ⟨[(nn, s.getReg .a)], rfl, rfl⟩
  case ldNNSP nn => exact ⟨[(nn, loByte s.sp), (incWord nn, hiByte s.sp)], rfl, rfl⟩
  case push p => exact ⟨s.pushStores (s.readStk p), rfl, s.bus_push16 _⟩
  case call | rst => exact ⟨s.pushStores s.pc, rfl, s.bus_push16 _⟩
  case inc8 o | dec8 o | rot _ o | res _ o | set _ o =>
    exact ⟨s.operandStores _ o, by cases o <;> rfl, s.bus_writeOperand o _⟩
  all_goals exact ⟨[], rfl, by simp [State.storeAll]⟩

/-! ### The address space -/

theorem State.memRead_storeAll (s : State) (ws : List (Word × Byte)) (a : Word)
    (h : ∀ x ∈ ws.map Prod.fst, ¬ SameByte a x) : (s.storeAll ws).memRead a = s.memRead a := by
  induction ws generalizing s with
  | nil => rfl
  | cons w rest ih =>
    obtain ⟨x, v⟩ := w
    simp only [List.map_cons, List.forall_mem_cons] at h
    exact (ih _ h.2).trans (s.memRead_memWrite_ne x a v h.1)

/-- Settles O54: what an instruction stores, it stores at the addresses of `storedAt`. -/
theorem memoryFrame : Obligations.MemoryFrame := by
  intro i s t h a ha
  rw [exec_eq_runForm_effect] at h
  obtain ⟨ws, hws, hbus⟩ := runForm_stores _ s t (effect_ne_cbPrefix i) h
  rw [State.memRead_eq_of_bus_eq hbus]
  exact s.memRead_storeAll ws a (hws ▸ ha)

/-! ### Hidden state -/

theorem State.storeAll_divAcc (s : State) (ws : List (Word × Byte)) :
    (s.storeAll ws).timer.divAcc =
      if 0xFF04 ∈ ws.map Prod.fst then 0 else s.timer.divAcc := by
  induction ws generalizing s with
  | nil => rfl
  | cons w rest ih =>
    obtain ⟨x, v⟩ := w
    simp only [State.storeAll, ih, State.memWrite_divAcc, target_eq_divider_iff, List.map_cons,
      List.mem_cons, eq_comm (a := x)]
    split_ifs <;> simp_all

/-- What stores leave alone: DIV, the counter's accumulator, the low nibble of the joypad byte, the
parameters and the host's inputs. -/
theorem State.storeAll_frame (s : State) (ws : List (Word × Byte)) :
    let t := s.storeAll ws
    t.timer.div = s.timer.div ∧ t.timer.timaAcc = s.timer.timaAcc ∧
      t.joyp &&& 0x0F = s.joyp &&& 0x0F ∧ t.cfg = s.cfg ∧ t.host = s.host := by
  induction ws generalizing s with
  | nil => simp [State.storeAll]
  | cons w rest ih =>
    obtain ⟨hdiv, hacc, hjoyp, hcfg, hhost⟩ := ih (s.memWrite w.1 w.2)
    exact ⟨hdiv.trans (by simp), hacc.trans (by simp), hjoyp.trans (s.memWrite_joyp_low _ _),
      hcfg.trans (by simp), hhost.trans (by simp)⟩

theorem State.wf_storeAll (s : State) (ws : List (Word × Byte)) (h : s.mem.wf) :
    (s.storeAll ws).mem.wf := by
  induction ws generalizing s with
  | nil => exact h
  | cons w rest ih => exact ih _ (s.wf_memWrite w.1 w.2 h)

/-- Every instruction keeps the canonical form of memory. -/
theorem wf_of_runForm (f : Form) (s t : State) (hf : ∀ op2, f ≠ .cbPrefix op2)
    (h : runForm f s = .next t) (hwf : s.mem.wf) : t.mem.wf := by
  obtain ⟨ws, -, hbus⟩ := runForm_stores f s t hf h
  simp only [State.bus, Prod.mk.injEq] at hbus
  obtain ⟨-, -, -, -, hmem, -, -⟩ := hbus
  exact hmem ▸ s.wf_storeAll ws hwf

/-! ### The writes of operands and pairs, calls and returns, field by field -/

section
variable (s : State)

@[simp] theorem State.writeOperand_pc (o : Operand8) (v : Byte) :
    (s.writeOperand o v).pc = s.pc := by cases o <;> simp [State.writeOperand]

@[simp] theorem State.indirectUpdate_pc (i : Indirect) : (s.indirectUpdate i).pc = s.pc := by
  cases i <;> rfl

@[simp] theorem State.writeStk_pc (p : PairStk) (v : Word) : (s.writeStk p v).pc = s.pc := by
  cases p <;> rfl

@[simp] theorem State.writePair_pc (p : Pair16) (v : Word) : (s.writePair p v).pc = s.pc := by
  cases p <;> rfl

@[simp] theorem State.writeOperand_ime (o : Operand8) (v : Byte) :
    (s.writeOperand o v).ime = s.ime := by cases o <;> simp [State.writeOperand]

@[simp] theorem State.indirectUpdate_ime (i : Indirect) : (s.indirectUpdate i).ime = s.ime := by
  cases i <;> rfl

@[simp] theorem State.writeStk_ime (p : PairStk) (v : Word) : (s.writeStk p v).ime = s.ime := by
  cases p <;> rfl

@[simp] theorem State.writePair_ime (p : Pair16) (v : Word) : (s.writePair p v).ime = s.ime := by
  cases p <;> rfl

@[simp] theorem State.callAt_ime (dest : Word) : (s.callAt dest).ime = s.ime := by
  simp [State.callAt]

@[simp] theorem State.returned_ime : s.returned.ime = s.ime := rfl

@[simp] theorem State.writeOperand_halted (o : Operand8) (v : Byte) :
    (s.writeOperand o v).halted = s.halted := by cases o <;> simp [State.writeOperand]

@[simp] theorem State.indirectUpdate_halted (i : Indirect) :
    (s.indirectUpdate i).halted = s.halted := by
  cases i <;> rfl

@[simp] theorem State.writeStk_halted (p : PairStk) (v : Word) :
    (s.writeStk p v).halted = s.halted := by
  cases p <;> rfl

@[simp] theorem State.writePair_halted (p : Pair16) (v : Word) :
    (s.writePair p v).halted = s.halted := by
  cases p <;> rfl

@[simp] theorem State.callAt_halted (dest : Word) : (s.callAt dest).halted = s.halted := by
  simp [State.callAt]

@[simp] theorem State.returned_halted : s.returned.halted = s.halted := rfl

@[simp] theorem State.writeOperand_stopped (o : Operand8) (v : Byte) :
    (s.writeOperand o v).stopped = s.stopped := by cases o <;> simp [State.writeOperand]

@[simp] theorem State.indirectUpdate_stopped (i : Indirect) :
    (s.indirectUpdate i).stopped = s.stopped := by
  cases i <;> rfl

@[simp] theorem State.writeStk_stopped (p : PairStk) (v : Word) :
    (s.writeStk p v).stopped = s.stopped := by
  cases p <;> rfl

@[simp] theorem State.writePair_stopped (p : Pair16) (v : Word) :
    (s.writePair p v).stopped = s.stopped := by
  cases p <;> rfl

@[simp] theorem State.callAt_stopped (dest : Word) : (s.callAt dest).stopped = s.stopped := by
  simp [State.callAt]

@[simp] theorem State.returned_stopped : s.returned.stopped = s.stopped := rfl

@[simp] theorem State.writeOperand_haltBug (o : Operand8) (v : Byte) :
    (s.writeOperand o v).haltBug = s.haltBug := by cases o <;> simp [State.writeOperand]

@[simp] theorem State.indirectUpdate_haltBug (i : Indirect) :
    (s.indirectUpdate i).haltBug = s.haltBug := by
  cases i <;> rfl

@[simp] theorem State.writeStk_haltBug (p : PairStk) (v : Word) :
    (s.writeStk p v).haltBug = s.haltBug := by
  cases p <;> rfl

@[simp] theorem State.writePair_haltBug (p : Pair16) (v : Word) :
    (s.writePair p v).haltBug = s.haltBug := by
  cases p <;> rfl

@[simp] theorem State.callAt_haltBug (dest : Word) : (s.callAt dest).haltBug = s.haltBug := by
  simp [State.callAt]

@[simp] theorem State.returned_haltBug : s.returned.haltBug = s.haltBug := rfl

@[simp] theorem State.writeOperand_sp (o : Operand8) (v : Byte) :
    (s.writeOperand o v).sp = s.sp := by cases o <;> simp [State.writeOperand]

@[simp] theorem State.indirectUpdate_sp (i : Indirect) : (s.indirectUpdate i).sp = s.sp := by
  cases i <;> rfl

@[simp] theorem State.writeStk_sp (p : PairStk) (v : Word) : (s.writeStk p v).sp = s.sp := by
  cases p <;> rfl

/-! The data registers. -/

variable (r : Reg8)

@[simp] theorem State.getReg_setSp (v : Word) : (s.setSp v).getReg r = s.getReg r := rfl
@[simp] theorem State.getReg_setPc (v : Word) : (s.setPc v).getReg r = s.getReg r := rfl
@[simp] theorem State.getReg_setIme (v : Ime) : (s.setIme v).getReg r = s.getReg r := rfl
@[simp] theorem State.getReg_setHalted (v : Bool) : (s.setHalted v).getReg r = s.getReg r := rfl
@[simp] theorem State.getReg_setStopped (v : Bool) : (s.setStopped v).getReg r = s.getReg r := rfl
@[simp] theorem State.getReg_setHaltBug (v : Bool) : (s.setHaltBug v).getReg r = s.getReg r := rfl
@[simp] theorem State.getReg_setCycles (v : Nat) : (s.setCycles v).getReg r = s.getReg r := rfl

@[simp] theorem State.getReg_memWrite (a : Word) (v : Byte) :
    (s.memWrite a v).getReg r = s.getReg r := by simp [State.getReg]

@[simp] theorem State.getReg_callAt (dest : Word) : (s.callAt dest).getReg r = s.getReg r := by
  simp [State.getReg, State.callAt]

@[simp] theorem State.getReg_returned : s.returned.getReg r = s.getReg r := rfl

@[simp] theorem State.getReg_push16 (v : Word) : (s.push16 v).getReg r = s.getReg r := by
  simp [State.getReg]

variable {r}

theorem State.getReg_setReg_of_ne {q : Reg8} (v : Byte) (hr : r ≠ q) :
    (s.setReg q v).getReg r = s.getReg r := by
  rw [State.getReg_setReg, if_neg hr]

/-- Writing the two halves of a pair leaves the other registers. -/
theorem State.getReg_setReg_setReg {p q : Reg8} (v w : Byte) (hr : r ∉ [p, q]) :
    ((s.setReg p v).setReg q w).getReg r = s.getReg r := by
  simp only [List.mem_cons, List.not_mem_nil, or_false, not_or] at hr
  rw [State.getReg_setReg_of_ne _ _ hr.2, State.getReg_setReg_of_ne _ _ hr.1]

theorem State.getReg_setHl (v : Word) (hr : r ∉ Pair16.hl.regs) :
    (s.setHl v).getReg r = s.getReg r :=
  s.getReg_setReg_setReg (hiByte v) (loByte v) hr

theorem State.getReg_writeOperand (o : Operand8) (v : Byte) (hr : r ∉ o.regs) :
    (s.writeOperand o v).getReg r = s.getReg r := by
  cases o
  · exact s.getReg_setReg_of_ne v (List.ne_of_not_mem_cons hr)
  · exact s.getReg_memWrite r s.hl v

theorem State.getReg_indirectUpdate (i : Indirect) (hr : r ∉ i.regs) :
    (s.indirectUpdate i).getReg r = s.getReg r := by
  cases i
  case hli | hld => exact s.getReg_setHl _ hr
  all_goals rfl

theorem State.getReg_writePair (p : Pair16) (v : Word) (hr : r ∉ p.regs) :
    (s.writePair p v).getReg r = s.getReg r := by
  cases p
  case sp => rfl
  all_goals exact s.getReg_setReg_setReg (hiByte v) (loByte v) hr

theorem State.getReg_writeStk (p : PairStk) (v : Word) (hr : r ∉ p.regs) :
    (s.writeStk p v).getReg r = s.getReg r := by
  cases p
  case af =>
    exact (State.getReg_setF _ r _).trans
      (s.getReg_setReg_of_ne (hiByte v) (List.ne_of_not_mem_cons hr))
  all_goals exact s.getReg_setReg_setReg (hiByte v) (loByte v) hr

theorem State.getReg_putAlu (x : AluOut) (hr : r = .a → x.result = s.getReg .a) :
    (s.putAlu x).getReg r = s.getReg r := by
  simp only [State.putAlu, State.getReg_setFlags, State.getReg_setReg]
  split_ifs with h
  · rw [hr h, h]
  · rfl

end

theorem Form.destRegs_aluN (k : AluOp) (n : Byte) (o : Operand8) :
    (Form.aluN k n).destRegs = (Form.alu k o).destRegs := by
  cases k <;> rfl

/-- Only a comparison discards its result (R141). -/
theorem AluOp.result_of_not_dest (k : AluOp) {o : Operand8} (h : .a ∉ (Form.alu k o).destRegs)
    (a v : Byte) (carry : Bool) : (AluOp.run k a v carry).result = a := by
  cases k
  case cp => rfl
  all_goals exact absurd (List.mem_singleton.2 rfl) h

/-! ### IME, the low-power states and the cost -/

/-- EI's column of the table of R287. -/
theorem Ime.request_eq_imeWrite (p : EiFromSet) (v : Ime) : v.request p = imeWrite p .ei v := by
  cases v <;> cases p <;> rfl

section
variable {f : Form} {s t : State} (hf : ∀ op2, f ≠ .cbPrefix op2) (h : runForm f s = .next t)
include hf h

/-- halted and haltBug are HALT's alone, stopped is STOP's (R224, R225). -/
theorem runForm_lowPower :
    (f ≠ .halt → t.halted = s.halted ∧ t.haltBug = s.haltBug) ∧
    ((∀ pad, f ≠ .stop pad) → t.stopped = s.stopped) := by
  cases f
  case cbPrefix op2 => exact absurd rfl (hf op2)
  case illegal => cases h
  case halt | jpCc | jrCc | callCc | retCc =>
    simp only [runForm_halt, runForm_jpCc, runForm_jrCc, runForm_callCc, runForm_retCc] at h
    split_ifs at h <;> cases h <;> simp
  all_goals
    obtain rfl := Host.Outcome.next.inj h
    simp

theorem runForm_ime : t.ime = imeWrite s.cfg.eiFromSet f s.ime := by
  cases f
  case cbPrefix op2 => exact absurd rfl (hf op2)
  case illegal => cases h
  case halt | jpCc | jrCc | callCc | retCc =>
    simp only [runForm_halt, runForm_jpCc, runForm_jrCc, runForm_callCc, runForm_retCc] at h
    split_ifs at h <;> cases h <;> simp [imeWrite]
  all_goals obtain rfl := Host.Outcome.next.inj h
  case ei => exact Ime.request_eq_imeWrite s.cfg.eiFromSet s.ime
  all_goals simp [imeWrite]

theorem runForm_cycles : t.cycles = s.cost f := by
  cases f
  case cbPrefix op2 => exact absurd rfl (hf op2)
  case illegal => cases h
  case halt | jpCc | jrCc | callCc | retCc =>
    simp only [runForm_halt, runForm_jpCc, runForm_jrCc, runForm_callCc, runForm_retCc] at h
    split_ifs at h <;> cases h <;> simp [State.cost, *]
  all_goals obtain rfl := Host.Outcome.next.inj h
  case alu _ o | inc8 o | dec8 o | rot _ o | bit _ o | res _ o | set _ o => cases o <;> rfl
  all_goals rfl

/-- Only the control transfers write PC (R25). -/
theorem runForm_pc (hp : f.transfers = false) : t.pc = s.pc := by
  cases f
  case cbPrefix op2 => exact absurd rfl (hf op2)
  case illegal => cases h
  case jp | jpCc | jpHL | jr | jrCc | call | callCc | ret | retCc | reti | rst => cases hp
  case halt =>
    simp only [runForm_halt] at h
    split_ifs at h <;> cases h <;> rfl
  all_goals
    obtain rfl := Host.Outcome.next.inj h
    simp

theorem runForm_sp (hp : f.writesSp = false) : t.sp = s.sp := by
  cases f
  case cbPrefix op2 => exact absurd rfl (hf op2)
  case illegal => cases h
  case ldSPHL | addSP | push | pop | call | callCc | ret | retCc | reti | rst => cases hp
  case halt | jpCc | jrCc =>
    simp only [runForm_halt, runForm_jpCc, runForm_jrCc] at h
    split_ifs at h <;> cases h <;> rfl
  all_goals obtain rfl := Host.Outcome.next.inj h
  case ldR16 p _ | incR16 p | decR16 p =>
    cases p
    case sp => cases hp
    all_goals rfl
  all_goals simp

/-- The data registers an instruction may write are the listed ones (R21). -/
theorem runForm_getReg {r : Reg8} (hr : r ∉ f.destRegs) : t.getReg r = s.getReg r := by
  cases f
  case cbPrefix op2 => exact absurd rfl (hf op2)
  case illegal => cases h
  case halt | jpCc | jrCc | callCc | retCc =>
    simp only [runForm_halt, runForm_jpCc, runForm_jrCc, runForm_callCc, runForm_retCc] at h
    split_ifs at h <;> cases h <;> simp
  all_goals obtain rfl := Host.Outcome.next.inj h
  case ldRR dst _ | ldRM dst | ldRN dst _ =>
    exact s.getReg_setReg_of_ne _ (List.ne_of_not_mem_cons hr)
  case ldAInd i =>
    simp only [Form.destRegs, List.mem_cons, not_or] at hr
    exact (State.getReg_indirectUpdate _ i hr.2).trans (s.getReg_setReg_of_ne _ hr.1)
  case ldIndA i => exact (State.getReg_indirectUpdate _ i hr).trans (s.getReg_memWrite r _ _)
  case ldhAN | ldAC | ldANN => exact s.getReg_setReg_of_ne _ (List.ne_of_not_mem_cons hr)
  case ldR16 p _ | incR16 p | decR16 p => exact s.getReg_writePair p _ hr
  case ldHLSP | addHL => simpa using s.getReg_setHl _ hr
  case pop p => exact State.getReg_writeStk _ p _ hr
  case alu k o =>
    exact s.getReg_putAlu _ fun ha => AluOp.result_of_not_dest k (ha ▸ hr) _ _ _
  case aluN k n =>
    rw [Form.destRegs_aluN k n .atHL] at hr
    exact s.getReg_putAlu _ fun ha => AluOp.result_of_not_dest k (ha ▸ hr) _ _ _
  case inc8 o | dec8 o | rot _ o => simpa using s.getReg_writeOperand o _ hr
  case res _ o | set _ o => exact s.getReg_writeOperand o _ hr
  case daa => exact s.getReg_putAlu _ fun ha => absurd ha (List.ne_of_not_mem_cons hr)
  case cpl | rlca | rla | rrca | rra =>
    simpa using s.getReg_setReg_of_ne _ (List.ne_of_not_mem_cons hr)
  all_goals simp

end

theorem cost_bounds (s : State) (f : Form) (hcb : ∀ op2, f ≠ .cbPrefix op2)
    (hill : ∀ op, f ≠ .illegal op) : s.cost f % 4 = 0 ∧ 4 ≤ s.cost f ∧ s.cost f ≤ 24 := by
  cases f
  case cbPrefix op2 => exact absurd rfl (hcb op2)
  case illegal op => exact absurd rfl (hill op)
  case alu _ o | inc8 o | dec8 o | rot _ o | bit _ o | res _ o | set _ o =>
    cases o <;> simp [State.cost]
  case jpCc | jrCc | callCc | retCc =>
    simp only [State.cost]
    split <;> simp
  all_goals simp [State.cost]

/-! ### The flags -/

/-- The table of R26 for a row, between two states. -/
def AllowsFlags (w : FlagRow) (s t : State) : Prop :=
  w.z.allows s.flagZ t.flagZ ∧ w.n.allows s.flagN t.flagN ∧ w.h.allows s.flagH t.flagH ∧
    w.c.allows s.flagC t.flagC

/-- A flag keeps its value where F is not written. -/
theorem allowsFlags_of_f_eq {s t : State} (h : t.regs.f = s.regs.f) :
    AllowsFlags ⟨.kept, .kept, .kept, .kept⟩ s t := by
  simp [AllowsFlags, FlagWrite.allows, State.flagZ, State.flagN, State.flagH, State.flagC, h]

/-- Flags written from given values are what the entries say of those values. -/
theorem allowsFlags_setFlags_iff (w : FlagRow) (s u : State) (z n h c : Bool) (k : Nat) :
    AllowsFlags w s ((u.setFlags z n h c).setCycles k) ↔
      w.z.allows s.flagZ z ∧ w.n.allows s.flagN n ∧ w.h.allows s.flagH h ∧
        w.c.allows s.flagC c := by
  have hz : ((u.setFlags z n h c).setCycles k).flagZ = z := u.flagZ_setFlags z n h c
  have hn : ((u.setFlags z n h c).setCycles k).flagN = n := u.flagN_setFlags z n h c
  have hh : ((u.setFlags z n h c).setCycles k).flagH = h := u.flagH_setFlags z n h c
  have hc : ((u.setFlags z n h c).setCycles k).flagC = c := u.flagC_setFlags z n h c
  rw [AllowsFlags, hz, hn, hh, hc]

section
variable (s : State)

@[simp] theorem State.writeOperand_f (o : Operand8) (v : Byte) :
    (s.writeOperand o v).regs.f = s.regs.f := by cases o <;> simp [State.writeOperand]

@[simp] theorem State.indirectUpdate_f (i : Indirect) :
    (s.indirectUpdate i).regs.f = s.regs.f := by cases i <;> rfl

@[simp] theorem State.writePair_f (p : Pair16) (v : Word) :
    (s.writePair p v).regs.f = s.regs.f := by cases p <;> rfl

@[simp] theorem State.callAt_f (dest : Word) : (s.callAt dest).regs.f = s.regs.f := by
  simp [State.callAt]

@[simp] theorem State.returned_f : s.returned.regs.f = s.regs.f := rfl

end

/-- The flags an ALU operation writes (R26). -/
theorem AluOp.flagRow_run (k : AluOp) (a v : Byte) (s : State) :
    let r := AluOp.run k a v s.flagC
    k.flagRow.z.allows s.flagZ r.z ∧ k.flagRow.n.allows s.flagN r.n ∧
      k.flagRow.h.allows s.flagH r.h ∧ k.flagRow.c.allows s.flagC r.c := by
  cases k <;> simp [AluOp.flagRow, FlagWrite.allows, AluOp.run, add8, sub8, and8, xor8, or8]

/-- The flags an instruction writes, and the low nibble of F, which POP AF alone clears. -/
theorem runForm_flags {f : Form} {s t : State} (hf : ∀ op2, f ≠ .cbPrefix op2)
    (h : runForm f s = .next t) :
    AllowsFlags f.flagRow s t ∧
      t.regs.f &&& 0x0F = (if f = .pop .af then 0 else s.regs.f &&& 0x0F) := by
  cases f
  case cbPrefix op2 => exact absurd rfl (hf op2)
  case illegal => cases h
  case halt | jpCc | jrCc | callCc | retCc =>
    simp only [runForm_halt, runForm_jpCc, runForm_jrCc, runForm_callCc, runForm_retCc] at h
    split_ifs at h <;> cases h <;> exact ⟨allowsFlags_of_f_eq (by simp), by simp⟩
  all_goals obtain rfl := Host.Outcome.next.inj h
  case alu k _ | aluN k _ =>
    exact ⟨(allowsFlags_setFlags_iff ..).2 (AluOp.flagRow_run k _ _ s), s.low_setFlags ..⟩
  case pop p =>
    cases p
    case af => exact ⟨⟨trivial, trivial, trivial, trivial⟩, low_of_mask _⟩
    all_goals exact ⟨allowsFlags_of_f_eq rfl, rfl⟩
  case rot k o =>
    refine ⟨(allowsFlags_setFlags_iff ..).2 ?_, (State.low_setFlags ..).trans (by simp)⟩
    cases k <;> simp [Form.flagRow, FlagWrite.allows, RotOp.run]
  case inc8 | dec8 | daa | cpl | scf | ccf | addHL | addSP | ldHLSP | rlca | rla | rrca | rra
      | bit =>
    refine ⟨(allowsFlags_setFlags_iff ..).2 ?_, (State.low_setFlags ..).trans (by simp)⟩
    simp [Form.flagRow, FlagWrite.allows, inc8, dec8, daa8, add16, addSpByte]
  all_goals exact ⟨allowsFlags_of_f_eq (by simp), by simp⟩

/-! ### The statements -/

/-- Settles O26: the table of R287, form by form. -/
theorem onlyDiEiRetiWriteIme : Obligations.OnlyDiEiRetiWriteIme := by
  intro i s t h
  rw [exec_eq_runForm_effect] at h
  exact runForm_ime (effect_ne_cbPrefix i) h

/-- Settles O52: the table of R26, form by form. -/
theorem flagsFrame : Obligations.FlagsFrame := by
  intro i s t h
  rw [exec_eq_runForm_effect] at h
  obtain ⟨⟨hz, hn, hh, hc⟩, hlow⟩ := runForm_flags (effect_ne_cbPrefix i) h
  exact ⟨hz, hn, hh, hc, hlow⟩

/-- Settles O53: destinations, SP and PC, form by form. -/
theorem registersFrame : Obligations.RegistersFrame := by
  intro i s t h
  rw [exec_eq_runForm_effect] at h
  have hf := effect_ne_cbPrefix i
  exact ⟨fun _ => runForm_getReg hf h, runForm_sp hf h, runForm_pc hf h⟩

/-- An effect that no extended row has is the instruction's own form. -/
theorem eq_instr_of_effect_eq {i : Instr} {f : Form} (h : i.effect = f)
    (hf : ∀ op2, decodeCb op2 ≠ f) : i = f.instr := by
  rw [Instr.effect] at h
  split at h
  next op2 _ => exact absurd h (hf op2)
  next => rw [← h, instr_form]

theorem decodeCb_ne_halt (op2 : Byte) : decodeCb op2 ≠ .halt := by
  obtain ⟨_, _, h⟩ | ⟨_, _, h⟩ | ⟨_, _, h⟩ | ⟨_, _, h⟩ := decodeCb_cases op2 <;> simp [h]

theorem decodeCb_ne_stop (op2 pad : Byte) : decodeCb op2 ≠ .stop pad := by
  obtain ⟨_, _, h⟩ | ⟨_, _, h⟩ | ⟨_, _, h⟩ | ⟨_, _, h⟩ := decodeCb_cases op2 <;> simp [h]

/-- Settles O55: the low-power bits form by form, the rest by what stores do. -/
theorem hiddenStateFrame : Obligations.HiddenStateFrame := by
  intro i s t h
  rw [exec_eq_runForm_effect] at h
  have hf := effect_ne_cbPrefix i
  obtain ⟨hhalt, hstop⟩ := runForm_lowPower hf h
  obtain ⟨ws, hws, hbus⟩ := runForm_stores _ s t hf h
  simp only [State.bus, Prod.mk.injEq] at hbus
  obtain ⟨htimer, -, -, hjoyp, -, hcfg, hhost⟩ := hbus
  rw [htimer, hjoyp, hcfg, hhost, ← hws]
  exact ⟨fun hi => hhalt fun he => hi (eq_instr_of_effect_eq he decodeCb_ne_halt),
    fun hi => hstop fun pad he => hi pad (eq_instr_of_effect_eq he (decodeCb_ne_stop · pad)),
    s.storeAll_divAcc ws, s.storeAll_frame ws⟩

/-- Settles O56: the table of R347, form by form; each of its entries is within the bounds. -/
theorem cyclesFollowTheTable : Obligations.CyclesFollowTheTable := by
  intro i s t h
  rw [exec_eq_runForm_effect] at h
  have hf := effect_ne_cbPrefix i
  have hcost := runForm_cycles hf h
  have hill : ∀ op, i.effect ≠ .illegal op := by
    intro op hop
    rw [hop] at h
    cases h
  exact ⟨hcost, hcost ▸ cost_bounds s i.effect hf hill⟩

/-- What an instruction answers: a next state, or one of the two faults (R297). -/
theorem runForm_cases (f : Form) (s : State) :
    (∃ t, runForm f s = .next t) ∨
    (∃ op, f = .illegal op ∧ runForm f s = .fault .illegalOpcode) ∨
    (f = .halt ∧ s.ime ≠ .set ∧ s.cfg.haltPolicy = .fault ∧
      runForm f s = .fault .haltImeNotSet) := by
  cases f
  case cbPrefix op2 =>
    obtain ⟨t, ht⟩ := runForm_decodeCb_completes op2 s
    exact .inl ⟨t, (runForm_cbPrefix s op2).trans ht⟩
  case illegal op => exact .inr (.inl ⟨op, rfl, rfl⟩)
  case halt =>
    rw [runForm_halt]
    split_ifs with hfault hbug
    · exact .inr (.inr ⟨rfl, hfault.1, hfault.2, rfl⟩)
    · exact .inl ⟨_, rfl⟩
    · exact .inl ⟨_, rfl⟩
  case jpCc | jrCc | callCc | retCc =>
    simp only [runForm_jpCc, runForm_jrCc, runForm_callCc, runForm_retCc]
    split_ifs <;> exact .inl ⟨_, rfl⟩
  all_goals exact .inl ⟨_, rfl⟩

/-- The two constructors that can fault, by their forms. -/
theorem exec_cases (i : Instr) (s : State) :
    (∃ t, exec i s = .next t) ∨
    (∃ op, i = .illegal op ∧ exec i s = .fault .illegalOpcode) ∨
    (i = .halt ∧ s.ime ≠ .set ∧ s.cfg.haltPolicy = .fault ∧ exec i s = .fault .haltImeNotSet) := by
  rw [exec_eq_runForm]
  have hform : ∀ f : Form, i.form = f → i = f.instr := fun f h => by rw [← h, instr_form]
  obtain h | ⟨op, hop, h⟩ | ⟨hhalt, h⟩ := runForm_cases i.form s
  · exact .inl h
  · exact .inr (.inl ⟨op, hform _ hop, h⟩)
  · exact .inr (.inr ⟨hform _ hhalt, h⟩)

/-- Settles O60: the answers of `exec` other than its faults. -/
theorem everyInstructionCompletes : Obligations.EveryInstructionCompletes := by
  intro i s hill hhalt
  obtain h | ⟨op, hop, -⟩ | ⟨hi, hime, hfault, -⟩ := exec_cases i s
  · exact h
  · exact absurd hop (hill op)
  · obtain hset | hsm := hhalt hi
    · exact absurd hset hime
    · simp [hsm] at hfault

end Sys2Proof.Machine
end

section
/-!
PROOFS. The statements of the step: the fetch, the host phase, idle and stopped steps, the epilogue.
-/

namespace Sys2Proof.Machine

/-! ### The fetch -/

theorem encode_injective_of_wellFormed {i j : Instr} (hi : i.wellFormed = true)
    (hj : j.wellFormed = true) (h : encode i = encode j) : i = j := by
  have hdec := encodeThenDecode i [] hi
  rw [h, encodeThenDecode j [] hj] at hdec
  exact (Prod.mk.inj (Except.ok.inj hdec)).1.symm

/-- Bytes beyond the instruction's length are not looked at (R92). -/
theorem decodeBytes_congr {b0 b1 b2 c1 c2 : Byte}
    (h : [b0, b1, b2].take (instrLength b0) = [b0, c1, c2].take (instrLength b0)) :
    decodeBytes b0 b1 b2 = decodeBytes b0 c1 c2 :=
  encode_injective_of_wellFormed (wellFormed_decodeBytes ..) (wellFormed_decodeBytes ..) <| by
    rw [encode_decodeBytes, encode_decodeBytes, h]

section
variable (s : State)

theorem State.fetch8_of_plain (h : s.haltBug = false) :
    s.fetch8 = (s.memRead s.pc, s.setPc (s.pc + 1)) := by
  simp only [State.fetch8, h, Bool.false_eq_true, if_false, incWord_eq]

theorem State.fetch8_of_haltBug (h : s.haltBug = true) :
    s.fetch8 = (s.memRead s.pc, s.setHaltBug false) := by
  simp only [State.fetch8, h, if_true]

@[simp] theorem State.setPc_setPc (v w : Word) : (s.setPc v).setPc w = s.setPc w := rfl

/-- The fetch of a core without haltBug: the bytes at PC, and PC past them (R92). -/
theorem State.fetchInstr_of_plain (h : s.haltBug = false) :
    s.fetchInstr =
      (decodeBytes (s.memRead s.pc) (s.memRead (s.pc + 1)) (s.memRead (s.pc + 2)),
        s.setPc (s.pc + BitVec.ofNat 16 (instrLength (s.memRead s.pc)))) := by
  have h1 : (s.setPc (s.pc + 1)).fetch8 = (s.memRead (s.pc + 1), s.setPc (s.pc + 2)) := by
    rw [State.fetch8_of_plain (s.setPc (s.pc + 1)) h, State.setPc_pc, BitVec.add_assoc]
    rfl
  have h2 : (s.setPc (s.pc + 2)).fetch8 = (s.memRead (s.pc + 2), s.setPc (s.pc + 3)) := by
    rw [State.fetch8_of_plain (s.setPc (s.pc + 2)) h, State.setPc_pc, BitVec.add_assoc]
    rfl
  obtain hl | hl | hl := instrLength_cases (s.memRead s.pc) <;>
    simp only [State.fetchInstr, s.fetch8_of_plain h, h1, h2, hl] <;>
    exact Prod.ext (decodeBytes_congr (by simp [hl])) rfl

/-- The fetch under haltBug: the byte at PC is also the one after the opcode (R305). -/
theorem State.fetchInstr_of_haltBug (h : s.haltBug = true) :
    s.fetchInstr =
      (decodeBytes (s.memRead s.pc) (s.memRead s.pc) (s.memRead (s.pc + 1)),
        (s.setHaltBug false).setPc
          (s.pc + BitVec.ofNat 16 (instrLength (s.memRead s.pc) - 1))) := by
  have h1 : (s.setHaltBug false).fetch8 =
      (s.memRead s.pc, (s.setHaltBug false).setPc (s.pc + 1)) :=
    State.fetch8_of_plain _ rfl
  have h2 : ((s.setHaltBug false).setPc (s.pc + 1)).fetch8 =
      (s.memRead (s.pc + 1), (s.setHaltBug false).setPc (s.pc + 2)) := by
    rw [State.fetch8_of_plain _ rfl, State.setPc_pc, BitVec.add_assoc]
    rfl
  obtain hl | hl | hl := instrLength_cases (s.memRead s.pc) <;>
    simp only [State.fetchInstr, s.fetch8_of_haltBug h, h1, h2, hl] <;>
    refine Prod.ext (decodeBytes_congr (by simp [hl])) ?_
  · exact congrArg (s.setHaltBug false).setPc (BitVec.add_zero s.pc).symm
  · rfl
  · rfl

end

/-! ### The step by the state of the core -/

theorem step_of_stopped (s : State) (h : s.stopped = true) : step s = .next s.finishStep := by
  simp only [step, h, if_true]

theorem step_of_halted (s : State) (hstop : s.stopped = false) (h : s.halted = true) :
    step s = .next (s.tick 4).finishStep := by
  simp only [step, hstop, h, Bool.false_eq_true, if_false, if_true]

theorem step_eq_runInstr (s : State) (hstop : s.stopped = false) (hhalt : s.halted = false) :
    step s = runInstr s := by
  simp only [step, hstop, hhalt, Bool.false_eq_true, if_false]

/-- Settles O7: the fetch under haltBug. -/
theorem haltBugReadsTheNextByteTwice : Obligations.HaltBugReadsTheNextByteTwice :=
  fun s h => s.fetchInstr_of_haltBug h

/-- Settles O6: the three bytes at PC decode to what the fetch yields. -/
theorem stepRunsTheDecodedInstruction : Obligations.StepRunsTheDecodedInstruction := by
  intro s i rest hstop hhalt hbug hdec
  have hfetch := s.fetchInstr_of_plain hbug
  have hlen := instrLength_cases (s.memRead s.pc)
  simp only [decode, List.length_cons, List.length_nil] at hdec
  rw [if_neg (by omega)] at hdec
  obtain ⟨rfl, rfl⟩ := Prod.mk.inj (Except.ok.inj hdec)
  have hread : 3 - (List.drop (instrLength (s.memRead s.pc) - 1)
      [s.memRead (s.pc + 1), s.memRead (s.pc + 2)]).length = instrLength (s.memRead s.pc) := by
    rw [List.length_drop, List.length_cons, List.length_cons, List.length_nil]
    omega
  rw [hread, step_eq_runInstr s hstop hhalt, runInstr, hfetch]
  rfl

/-! ### The host phase -/

section
variable (s : State)

theorem State.hostPhase_of_quiet (h : s.host = []) : s.hostPhase = s := by
  simp only [State.hostPhase, h]

theorem State.hostPhase_of_input {x : HostInput} {rest : List HostInput} (h : s.host = x :: rest) :
    s.hostPhase = (s.setHost rest).applyInput x := by
  simp only [State.hostPhase, h]

@[simp] theorem State.applyInput_stopped (x : HostInput) :
    (s.applyInput x).stopped = (s.stopped && !x.wake) := by
  cases hb : x.buttons <;> cases hw : x.wake <;> simp [State.applyInput, hb, hw]

@[simp] theorem State.applyInput_ifl (x : HostInput) :
    (s.applyInput x).ifl = s.ifl ||| (x.raise &&& 0x1B) := by
  cases hb : x.buttons <;> cases hw : x.wake <;> simp [State.applyInput, hb, hw]

theorem State.applyInput_joyp (x : HostInput) :
    (s.applyInput x).joyp =
      match x.buttons with
      | none => s.joyp
      | some n => (s.joyp &&& 0xF0) ||| n.setWidth 8 := by
  cases hb : x.buttons <;> cases hw : x.wake <;> simp [State.applyInput, hb, hw]

end

/-! ### The end of a step -/

theorem State.finishStep_of_stopped (s : State) (h : s.hostPhase.stopped = true) :
    s.finishStep = s.hostPhase := by
  simp only [State.finishStep, h, if_true]

theorem State.finishStep_of_awake (s : State) (h : s.hostPhase.stopped = false) :
    s.finishStep = s.hostPhase.service := by
  simp only [State.finishStep, h, Bool.false_eq_true, if_false]

theorem getLsbD_hostMask (n : Fin 8) :
    (0x1B : Byte).getLsbD n = decide (n.val ∈ [0, 1, 3, 4]) := by
  revert n; decide

theorem toNat_joypad_low (j : Byte) (b : BitVec 4) :
    ((j &&& 0xF0) ||| b.setWidth 8).toNat = j.toNat / 16 * 16 + b.toNat := by
  revert j b; decide

/-- Settles O9: a quiet host, an input that leaves the core stopped, and one that wakes it. -/
theorem stoppedStepIsHeldUntilTheHostWakes : Obligations.StoppedStepIsHeldUntilTheHostWakes := by
  intro s hs
  rw [step_of_stopped s hs]
  refine ⟨fun hhost => ?_, fun x rest hhost => ⟨fun hw => ?_, fun hw => ?_⟩⟩
  · have hp := s.hostPhase_of_quiet hhost
    rw [s.finishStep_of_stopped (by rw [hp, hs]), hp]
  · have hp := s.hostPhase_of_input hhost
    rw [s.finishStep_of_stopped (by simp [hp, hs, hw]), hp]
  · have hp := s.hostPhase_of_input hhost
    rw [s.finishStep_of_awake (by simp [hp, hw]), hp]

/-- Settles O10: the effect of an input field by field, and its place before the service phase. -/
theorem hostInputEffectAndPlace : Obligations.HostInputEffectAndPlace := by
  refine ⟨fun x s => ⟨fun n => ?_, fun hb => ?_, fun b hb => ?_, s.applyInput_stopped x,
    s.applyInput_eq x⟩, fun s => ⟨fun hhost => ?_, fun x rest hhost => ?_⟩⟩
  · rw [s.applyInput_ifl, BitVec.getLsbD_or, BitVec.getLsbD_and, getLsbD_hostMask]
  · rw [s.applyInput_joyp, hb]
  · rw [s.applyInput_joyp, hb, toNat_joypad_low]
  · rw [State.finishStep, s.hostPhase_of_quiet hhost]
  · rw [State.finishStep, s.hostPhase_of_input hhost]

/-- What a running core's step answers is decided by its instruction's answer. -/
theorem runInstr_cases (s : State) :
    (∃ t, runInstr s = .next t) ∨ (∃ r, runInstr s = .fault r) := by
  obtain ⟨t, h⟩ | ⟨op, -, h⟩ | ⟨-, -, -, h⟩ := exec_cases s.fetchInstr.1 s.fetchInstr.2
  · exact .inl ⟨_, by rw [runInstr, h]⟩
  · exact .inr ⟨_, by rw [runInstr, h]⟩
  · exact .inr ⟨_, by rw [runInstr, h]⟩

/-- A step has a next state, or the core was running and its instruction faults. -/
theorem step_cases (s : State) :
    (∃ t, step s = .next t) ∨ (s.halted = false ∧ s.stopped = false ∧ ∃ r, step s = .fault r) := by
  cases hstop : s.stopped
  · cases hhalt : s.halted
    · rw [step_eq_runInstr s hstop hhalt]
      exact (runInstr_cases s).imp_right fun h => ⟨rfl, rfl, h⟩
    · exact .inl ⟨_, step_of_halted s hstop hhalt⟩
  · exact .inl ⟨_, step_of_stopped s hstop⟩

/-- Settles O51: the answers of `exec`, which only a running core asks. -/
theorem onlyIllegalBytesAndHaltStop : Obligations.OnlyIllegalBytesAndHaltStop := by
  refine ⟨exec_cases, fun s r h => ?_, fun s r h => ?_⟩ <;>
    obtain ⟨t, ht⟩ | ⟨hhalt, hstop, q, hq⟩ := step_cases s
  · cases ht.symm.trans h
  · cases hq.symm.trans h
  · cases ht.symm.trans h
  · exact ⟨hhalt, hstop⟩

end Sys2Proof.Machine
end

section
/-!
PROOFS. The statements of interrupts and IME: dispatch, the return from it, the service phase, idle
steps and the delay of EI.
-/

namespace Sys2Proof.Machine

/-! ### Dispatch -/

/-- What dispatch does before its 20 cycles, with SP and the pushed bytes written out (R292). -/
theorem State.enterInterrupt_eq (q : IrqSource) (s : State) :
    s.enterInterrupt q =
      State.tick 20
        { (((s.setIme .unset).setIfl (s.ifl &&& ~~~ q.mask)).memWrite (s.sp - 1)
            (s.pc.extractLsb' 8 8)).memWrite (s.sp - 2) (s.pc.extractLsb' 0 8) with
          sp := s.sp - 2, pc := q.handler, halted := false, haltBug := false } := by
  simp only [State.enterInterrupt, State.push16_eq_extract]
  rfl

/-- Settles O29: `enterInterrupt_eq` at each of the five sources. -/
theorem dispatchEffect : Obligations.DispatchEffect := by
  intro s n q hq
  rw [State.enterInterrupt_eq]
  fin_cases n <;> subst hq <;> rfl

theorem State.memWrite_setHalted (s : State) (b : Bool) (a : Word) (v : Byte) :
    (s.setHalted b).memWrite a v = (s.memWrite a v).setHalted b := by
  simp only [State.memWrite]
  split <;> rfl

/-- Dispatch ends the halted state itself (R292). -/
theorem State.enterInterrupt_setHalted (s : State) (b : Bool) (q : IrqSource) :
    (s.setHalted b).enterInterrupt q = s.enterInterrupt q := by
  have h (v : Byte) : ((s.setHalted b).setIme .unset).setIfl v =
      ((s.setIme .unset).setIfl v).setHalted b := rfl
  simp only [State.enterInterrupt_eq, h, State.memWrite_setHalted, State.setHalted_ifl,
    State.setHalted_sp, State.setHalted_pc]
  rfl

/-- The stack of a dispatch holds the two bytes of PC. -/
theorem State.enterInterrupt_mem (q : IrqSource) (s : State) :
    (s.enterInterrupt q).mem =
      ((((s.setIme .unset).setIfl (s.ifl &&& ~~~ q.mask)).memWrite (s.sp - 1)
        (s.pc.extractLsb' 8 8)).memWrite (s.sp - 2) (s.pc.extractLsb' 0 8)).mem := by
  rw [State.enterInterrupt_eq, State.tick_mem]

theorem State.memRead_eq_of_mem_eq {s t : State} (h : s.mem = t.mem) {a : Word} {k : Nat}
    (ha : target a = .storage k) : s.memRead a = t.memRead a := by
  rw [s.memRead_of_storage ha, t.memRead_of_storage ha, h]

/-- Settles O30: the two pushed bytes are read back, as they are different bytes of storage. -/
theorem retiReturnsFromDispatch : Obligations.RetiReturnsFromDispatch := by
  intro s q j k hj hk hjk
  have hsp : (s.enterInterrupt q).sp = s.sp - 2 := by
    rw [State.enterInterrupt_sp, decWord_decWord_eq]
  have hsp1 : s.sp - 2 + 1 = s.sp - 1 := by bv_omega
  have hmem := s.enterInterrupt_mem q
  have hhi : (s.enterInterrupt q).memRead (s.sp - 1) = s.pc.extractLsb' 8 8 := by
    have hne : target (s.sp - 1) ≠ target (s.sp - 2) := by
      rw [hj, hk]
      exact fun h => hjk (Target.storage.inj h)
    rw [State.memRead_eq_of_mem_eq hmem hj, State.memRead_memWrite_ne _ _ _ _ hne,
      State.memRead_memWrite_storage _ _ _ _ j hj hj]
  have hlo : (s.enterInterrupt q).memRead (s.sp - 2) = s.pc.extractLsb' 0 8 := by
    rw [State.memRead_eq_of_mem_eq hmem hk, State.memRead_memWrite_storage _ _ _ _ k hk hk]
  refine ⟨_, exec_instr .reti _, ?_, ?_, State.enterInterrupt_regs q s, rfl⟩
  · change (s.enterInterrupt q).returned.pc = s.pc
    rw [State.returned_eq, State.setSp_pc, State.setPc_pc, hsp, hsp1, hhi, hlo,
      ← hiByte_eq_extractLsb', ← loByte_eq_extractLsb', ← joinBytes_eq_append,
      joinBytes_hiByte_loByte]
  · change (s.enterInterrupt q).returned.sp = s.sp
    rw [State.returned_eq, State.setSp_sp, hsp]
    bv_omega

/-! ### The service phase -/

section
variable (s : State)

theorem State.service_of_none (h : s.firstPending = none) : s.service = s := by
  obtain ⟨-, hs⟩ | ⟨q, hq, -⟩ | ⟨hq, -⟩ := s.service_cases
  · exact hs
  · cases h.symm.trans hq
  · rw [h] at hq; cases hq

theorem State.service_of_ime_ne_set (h : s.firstPending.isSome) (hime : s.ime ≠ .set) :
    s.service = s.setHalted false := by
  obtain ⟨hnone, -⟩ | ⟨q, -, hset, -⟩ | ⟨-, -, hs⟩ := s.service_cases
  · rw [hnone] at h; cases h
  · exact absurd hset hime
  · exact hs

theorem State.service_of_dispatch {q : IrqSource} (h : s.firstPending = some q)
    (hime : s.ime = .set) : s.service = s.enterInterrupt q := by
  obtain ⟨hnone, -⟩ | ⟨p, hp, -, hs⟩ | ⟨-, hne, -⟩ := s.service_cases
  · cases h.symm.trans hnone
  · cases h.symm.trans hp
    rw [hs, State.enterInterrupt_setHalted]
  · exact absurd hime hne

theorem State.firstPending_eq_none_iff :
    s.firstPending = none ↔ s.ie &&& s.ifl &&& 0x1F = 0 := by
  rw [← Option.not_isSome_iff_eq_none, s.firstPending_isSome_iff, not_not]

/-- The five bits of the requests (R289). -/
theorem State.pending_getLsbD (q : IrqSource) :
    s.pending.getLsbD q.number = (s.ie &&& s.ifl).getLsbD q.number := by
  have hmask : (0x1F : Byte).getLsbD q.number = true := by cases q <;> decide
  rw [State.pending, BitVec.getLsbD_and, hmask, Bool.and_true]

/-- The lowest request of those pending and enabled is the first one (R291). -/
theorem State.firstPending_eq_some {q : IrqSource}
    (hq : (s.ie &&& s.ifl).getLsbD q.number = true)
    (hlow : ∀ p : IrqSource, p.number < q.number → (s.ie &&& s.ifl).getLsbD p.number = false) :
    s.firstPending = some q := by
  simp only [← State.pending_getLsbD] at hq hlow
  have h0 := hlow .verticalBlank
  have h1 := hlow .displayStatus
  have h2 := hlow .timer
  have h3 := hlow .serial
  cases q <;> simp_all [State.firstPending, IrqSource.number]

end

/-- Settles O28: the three cases of the service phase. -/
theorem lowestEnabledRequestIsDispatched : Obligations.LowestEnabledRequestIsDispatched := by
  refine fun s => ⟨fun q hime hq hlow => ?_, fun hime hp => ?_, fun hp => ?_⟩
  · exact s.service_of_dispatch (s.firstPending_eq_some hq hlow) hime
  · exact s.service_of_ime_ne_set (s.firstPending_isSome_iff.2 hp) hime
  · exact s.service_of_none (s.firstPending_eq_none_iff.2 hp)

/-- Settles O8: the host phase of a quiet host is nothing, so the service phase decides. -/
theorem haltedStepIdlesUntilARequest : Obligations.HaltedStepIdlesUntilARequest := by
  intro s hstop hhalt hhost
  have hphase : (s.tick 4).hostPhase = s.tick 4 := State.hostPhase_of_quiet _ (by simp [hhost])
  have hstep : step s = .next (s.tick 4).service := by
    rw [step_of_halted s hstop hhalt, State.finishStep_of_awake _ (by simp [hphase, hstop]), hphase]
  rw [hstep]
  refine ⟨fun hp => ?_, fun hp hime => ?_, fun q hq hime => ?_⟩
  · rw [State.service_of_none _ ((State.firstPending_eq_none_iff _).2 hp)]
  · rw [State.service_of_ime_ne_set _ ((State.firstPending_isSome_iff _).2 hp)
      (by simpa using hime)]
  · rw [State.service_of_dispatch _ hq (by simpa using hime)]

/-! ### IME -/

theorem decodeCb_ne_di (op2 : Byte) : decodeCb op2 ≠ .di := by
  obtain ⟨_, _, h⟩ | ⟨_, _, h⟩ | ⟨_, _, h⟩ | ⟨_, _, h⟩ := decodeCb_cases op2 <;> simp [h]

/-- A pending IME becomes Set after any instruction but DI (R285, R287). -/
theorem epilogue_imeWrite_pending (p : EiFromSet) {f : Form} (h : f ≠ .di) :
    (imeWrite p f .pendingInstructionCompletion).epilogue = .set := by
  cases f
  case di => exact absurd rfl h
  all_goals rfl

/-- Settles O25: the steps by the state of the core, and what an instruction writes to IME. -/
theorem epilogueMovesImeByOneState : Obligations.EpilogueMovesImeByOneState := by
  refine ⟨fun s => ?_, fun s t => step_of_running s t, fun s => step_of_halted s,
    fun s => step_of_stopped s, fun s q => s.enterInterrupt_ime q, fun s t hime h => ?_,
    fun i s t hime hi h => ?_⟩
  · rw [State.epilogue]
    cases s.ime <;> rfl
  · have ht := onlyDiEiRetiWriteIme .ei s t h
    rw [hime] at ht
    exact congrArg Ime.epilogue ht
  · have ht := onlyDiEiRetiWriteIme i s t h
    rw [hime] at ht
    have hdi : i.effect ≠ .di := fun he => hi (eq_instr_of_effect_eq he decodeCb_ne_di)
    exact (congrArg Ime.epilogue ht).trans (epilogue_imeWrite_pending _ hdi)

@[simp] theorem State.hostPhase_haltBug (s : State) : s.hostPhase.haltBug = s.haltBug := by
  rw [State.hostPhase_eq]

theorem State.setHaltBug_false_eq {s : State} (h : s.haltBug = false) : s.setHaltBug false = s := by
  rw [← h]
  rfl

/-- The fetch of the byte of EI: PC is past it, or held there by haltBug (R305). -/
theorem State.fetchInstr_ei (s : State) (h : s.memRead s.pc = 0xFB) :
    s.fetchInstr = (.ei, (s.setHaltBug false).setPc (if s.haltBug then s.pc else s.pc + 1)) := by
  have hlen : instrLength 0xFB = 1 := rfl
  cases hb : s.haltBug
  · rw [s.fetchInstr_of_plain hb, h, hlen, State.setHaltBug_false_eq hb]
    rfl
  · rw [s.fetchInstr_of_haltBug hb, h, hlen]
    exact Prod.ext rfl (congrArg (s.setHaltBug false).setPc (BitVec.add_zero s.pc))

/-- Settles O27: IME is pending after the epilogue, so the service phase dispatches nothing. -/
theorem eiIsDelayedByOneInstruction : Obligations.EiIsDelayedByOneInstruction := by
  intro s hstop hhalt hime hei
  have hfetch := s.fetchInstr_ei hei
  have hreq : s.ime.request s.cfg.eiFromSet = .pendingNewInstruction := by
    rw [Ime.request_eq_ite, if_pos hime]
  have hstep := step_of_running s _ hstop hhalt (by rw [hfetch]; exact exec_instr .ei _)
  refine ⟨_, hstep, ?_⟩
  rw [State.finishStep_eq_of_ime_ne_set] <;>
    simp [hreq, State.epilogue, Ime.epilogue]

end Sys2Proof.Machine
end

section
/-!
PROOFS. Power-on and the invariant between two steps: each phase of a step keeps it.
-/

namespace Sys2Proof.Machine

/-! ### Power-on -/

/-- Settles O57: the record written out. -/
theorem powerOnValues : Obligations.PowerOnValues := ⟨fun _ _ _ => rfl, rfl⟩

theorem State.inv_powerOn (cfg : Config) (image : Memory) (host : List HostInput)
    (h : image.wf) : (State.powerOn cfg image host).Inv where
  flagsLow := BitVec.zero_and
  memory := h
  divAcc := Nat.zero_lt_succ _
  timaAcc _ := Nat.zero_lt_succ _
  ime := Ime.noConfusion
  oneLowPower h := Bool.noConfusion h.1
  haltBug := Bool.noConfusion
  haltedIme _ := Bool.noConfusion

/-- Settles O58; the reset state is a power-on with an empty memory. -/
theorem invariantAtPowerOn : Obligations.InvariantAtPowerOn :=
  ⟨State.inv_powerOn, State.inv_powerOn _ _ _ Memory.wf_nil⟩

/-! ### The phases after an instruction -/

/-- While a frozen accumulator is below the longest period, a tick leaves it there (R34). -/
theorem State.tick_timaAcc_lt {s : State} (n : Nat)
    (h : s.cfg.timaAcc = .frozen → s.timer.timaAcc < 1024) (hcfg : s.cfg.timaAcc = .frozen) :
    (s.tick n).timer.timaAcc < 1024 := by
  rw [State.tick_timaAcc, hcfg]
  split
  · exact (Nat.mod_lt _ s.timer.period_pos).trans_le s.timer.period_le
  · exact h hcfg

theorem State.stopped_of_hostPhase {s : State} (h : s.hostPhase.stopped = true) :
    s.stopped = true := by
  cases hhost : s.host with
  | nil => rwa [s.hostPhase_of_quiet hhost] at h
  | cons x rest =>
    rw [s.hostPhase_of_input hhost, State.applyInput_stopped, Bool.and_eq_true] at h
    exact h.1

section
variable {s : State} (h : s.Inv)
include h

theorem State.Inv.tick (n : Nat) : (s.tick n).Inv where
  flagsLow := by rw [State.tick_regs]; exact h.flagsLow
  memory := by rw [State.tick_mem]; exact h.memory
  divAcc := s.tick_divAcc_lt n
  timaAcc := by rw [State.tick_cfg]; exact State.tick_timaAcc_lt n h.timaAcc
  ime := by rw [State.tick_ime]; exact h.ime
  oneLowPower := by rw [State.tick_halted, State.tick_stopped]; exact h.oneLowPower
  haltBug := by simpa using h.haltBug
  haltedIme := by simpa using h.haltedIme

theorem State.Inv.hostPhase : s.hostPhase.Inv := by
  have hstop : s.hostPhase.stopped = true → s.stopped = true := State.stopped_of_hostPhase
  rw [State.hostPhase_eq]
  exact {
    flagsLow := h.flagsLow
    memory := h.memory
    divAcc := h.divAcc
    timaAcc := h.timaAcc
    ime := h.ime
    oneLowPower := fun ⟨hh, hs⟩ => h.oneLowPower ⟨hh, hstop hs⟩
    haltBug := fun hb =>
      have ⟨hcfg, hhalt, hs⟩ := h.haltBug hb
      ⟨hcfg, hhalt, Bool.eq_false_iff.2 fun hs' => Bool.eq_false_iff.1 hs (hstop hs')⟩
    haltedIme := h.haltedIme }

theorem State.Inv.wake : (s.setHalted false).Inv where
  flagsLow := h.flagsLow
  memory := h.memory
  divAcc := h.divAcc
  timaAcc := h.timaAcc
  ime := h.ime
  oneLowPower hb := Bool.noConfusion hb.1
  haltBug hb := have ⟨hcfg, _, hs⟩ := h.haltBug hb; ⟨hcfg, rfl, hs⟩
  haltedIme _ := Bool.noConfusion

theorem State.Inv.enterInterrupt (q : IrqSource) : (s.enterInterrupt q).Inv where
  flagsLow := by rw [State.enterInterrupt_regs]; exact h.flagsLow
  memory := s.wf_enterInterrupt q h.memory
  divAcc := by rw [State.enterInterrupt_eq]; exact State.tick_divAcc_lt ..
  timaAcc := by
    rw [State.enterInterrupt_cfg, State.enterInterrupt_eq]
    exact fun hcfg => State.tick_timaAcc_lt 20 (by simpa using h.timaAcc) (by simpa using hcfg)
  ime := by rw [State.enterInterrupt_ime]; exact Ime.noConfusion
  oneLowPower := by rw [State.enterInterrupt_halted]; exact fun hb => Bool.noConfusion hb.1
  haltBug := by rw [State.enterInterrupt_haltBug]; exact Bool.noConfusion
  haltedIme := by rw [State.enterInterrupt_halted]; exact fun _ => Bool.noConfusion

theorem State.Inv.service : s.service.Inv := by
  obtain ⟨-, hs⟩ | ⟨q, -, -, hs⟩ | ⟨-, -, hs⟩ := s.service_cases <;> rw [hs]
  · exact h
  · exact h.wake.enterInterrupt q
  · exact h.wake

theorem State.Inv.finishStep : s.finishStep.Inv := by
  cases hstop : s.hostPhase.stopped
  · rw [s.finishStep_of_awake hstop]
    exact h.hostPhase.service
  · rw [s.finishStep_of_stopped hstop]
    exact h.hostPhase

end

/-! ### The instruction -/

/-- The fetch moves PC and clears haltBug. -/
theorem State.fetchInstr_snd (s : State) :
    s.fetchInstr.2 = (s.setHaltBug false).setPc s.fetchInstr.2.pc := by
  cases hb : s.haltBug
  · rw [s.fetchInstr_of_plain hb, State.setHaltBug_false_eq hb]
    rfl
  · rw [s.fetchInstr_of_haltBug hb]
    rfl

theorem State.Inv.fetchInstr {s : State} (h : s.Inv) : s.fetchInstr.2.Inv := by
  rw [State.fetchInstr_snd]
  exact {
    flagsLow := h.flagsLow
    memory := h.memory
    divAcc := h.divAcc
    timaAcc := h.timaAcc
    ime := h.ime
    oneLowPower := h.oneLowPower
    haltBug := Bool.noConfusion
    haltedIme := h.haltedIme }

/-- A running core: neither halted nor stopped, and its haltBug read by the fetch. -/
structure State.Running (s : State) : Prop where
  halted : s.halted = false
  stopped : s.stopped = false
  haltBug : s.haltBug = false

theorem State.running_fetchInstr {s : State} (hhalt : s.halted = false)
    (hstop : s.stopped = false) : s.fetchInstr.2.Running := by
  rw [State.fetchInstr_snd]
  exact ⟨hhalt, hstop, rfl⟩

/-- The part of the invariant on the low-power bits, which HALT and STOP alone can write. -/
structure State.LowPowerInv (s : State) : Prop where
  oneLowPower : ¬ (s.halted = true ∧ s.stopped = true)
  haltBug : s.haltBug = true → s.cfg.haltPolicy = .sm83 ∧ s.halted = false ∧ s.stopped = false
  haltedIme : s.cfg.haltPolicy = .fault → s.halted = true → s.ime = .set

section
variable {s t : State} (hrun : s.Running)
include hrun

theorem lowPowerInv_of_halt (h : runForm .halt s = .next t) : t.LowPowerInv := by
  obtain ⟨hhalt, hstop, hbug⟩ := hrun
  rw [runForm_halt] at h
  split_ifs at h with hfault hpend
  · obtain rfl := Host.Outcome.next.inj h
    refine ⟨fun hb => ?_, fun _ => ⟨?_, hhalt, hstop⟩, fun _ hh => ?_⟩
    · exact Bool.noConfusion (hhalt.symm.trans hb.1)
    · cases hp : s.cfg.haltPolicy
      · exact absurd ⟨hpend.1, hp⟩ hfault
      · exact hp
    · exact Bool.noConfusion (hhalt.symm.trans hh)
  · obtain rfl := Host.Outcome.next.inj h
    refine ⟨fun hb => ?_, fun hb => ?_, fun hp _ => ?_⟩
    · exact Bool.noConfusion (hstop.symm.trans hb.2)
    · exact Bool.noConfusion (hbug.symm.trans hb)
    · exact not_not.1 fun hime => hfault ⟨hime, hp⟩

theorem lowPowerInv_of_runForm {f : Form} (hf : ∀ op2, f ≠ .cbPrefix op2)
    (h : runForm f s = .next t) : t.LowPowerInv := by
  by_cases hh : f = .halt
  · exact lowPowerInv_of_halt hrun (hh ▸ h)
  · obtain ⟨hhalt, hbug⟩ := (runForm_lowPower hf h).1 hh
    rw [hrun.halted] at hhalt
    rw [hrun.haltBug] at hbug
    exact ⟨fun hb => Bool.noConfusion (hhalt.symm.trans hb.1),
      fun hb => Bool.noConfusion (hbug.symm.trans hb),
      fun _ hb => Bool.noConfusion (hhalt.symm.trans hb)⟩

end

theorem Ime.epilogue_ne_pendingNewInstruction (v : Ime) : v.epilogue ≠ .pendingNewInstruction := by
  cases v <;> exact Ime.noConfusion

/-- An instruction of a running core and its epilogue keep the invariant. -/
theorem State.Inv.exec {s t : State} {i : Instr} (hinv : s.Inv) (hrun : s.Running)
    (h : exec i s = .next t) : t.epilogue.Inv := by
  obtain ⟨-, -, hdiv, -, htima, -, hcfg, -⟩ := hiddenStateFrame i s t h
  rw [exec_eq_runForm_effect] at h
  have hf := effect_ne_cbPrefix i
  have hlow := lowPowerInv_of_runForm hrun hf h
  exact {
    flagsLow := by
      refine (runForm_flags hf h).2.trans ?_
      split
      · rfl
      · exact hinv.flagsLow
    memory := wf_of_runForm _ s t hf h hinv.memory
    divAcc := by
      refine hdiv.trans_lt ?_
      split
      · decide
      · exact hinv.divAcc
    timaAcc := fun hc =>
      htima.trans_lt (hinv.timaAcc ((congrArg Config.timaAcc hcfg).symm.trans hc))
    ime := t.ime.epilogue_ne_pendingNewInstruction
    oneLowPower := hlow.oneLowPower
    haltBug := hlow.haltBug
    haltedIme := fun hp hh => congrArg Ime.epilogue (hlow.haltedIme hp hh) }

/-! ### The step -/

/-- Settles O59: idle and stopped steps keep the invariant phase by phase, and so does a running one
by its fetch, its instruction with the epilogue, and what every step ends with. -/
theorem everyStepKeepsTheInvariant : Obligations.EveryStepKeepsTheInvariant := by
  intro s t hinv hstep
  cases hstop : s.stopped
  case true =>
    rw [step_of_stopped s hstop] at hstep
    exact Host.Outcome.next.inj hstep ▸ hinv.finishStep
  case false =>
    cases hhalt : s.halted
    case true =>
      rw [step_of_halted s hstop hhalt] at hstep
      exact Host.Outcome.next.inj hstep ▸ (hinv.tick 4).finishStep
    case false =>
      rw [step_eq_runInstr s hstop hhalt, runInstr] at hstep
      cases hexec : exec s.fetchInstr.1 s.fetchInstr.2 <;> rw [hexec] at hstep <;> cases hstep
      exact ((hinv.fetchInstr.exec (State.running_fetchInstr hhalt hstop) hexec).tick _).finishStep

end Sys2Proof.Machine
end
